-- ==== Sys2Proof/Word.lean ====
section
/-! DEFINITION. The word types of the block's ports and registers. -/

namespace Sys2Proof

/-- One sample, one FIFO entry, one data byte: 8 bits, unsigned (`00_scope.md` section 5.1, `SAMPLE_W`). -/
abbrev Byte := BitVec 8

/-- One host command word or one response word: 16 bits (`00_scope.md` section 5.1, `CMD_W`, `RSP_W`). -/
abbrev Word := BitVec 16

end Sys2Proof
end

