-- ==== Sys2Proof/Config.lean ====
section
/-! DEFINITION. The structural constants and the configuration record `Cfg` of `00_scope.md` section 5,
with the reference configuration `CFG0`. Nothing in the spec leaves an instruction's result open, so there is no
opaque constant here. -/

namespace Sys2Proof

/-- `BIAS`, the mid-scale sample (`00_scope.md` section 5.1). -/
def bias : Byte := 128

/-- `PLEN`, the samples of one full wave period (`00_scope.md` section 5.1). -/
def fullPeriod : Nat := 256

/-- `F`, the fraction bits of the phase accumulator and of every step (`00_scope.md` section 5.1). -/
def fracBits : Nat := 8

/-- `DELAY_MAX`, the largest delay-line length (`00_scope.md` section 5.1). -/
def delayMax : Nat := 16

/-- One tone pair of the ToneDirectionTable (`00_scope.md` section 5.2, `42_tone_direction.md` R100). -/
structure TonePair where
  /-- `spaceFreq` in Hz, 16 bits, informative to the datapath. -/
  spaceFreq : Nat
  /-- `markFreq` in Hz, 16 bits, informative to the datapath. -/
  markFreq : Nat
  /-- `spaceStep`, `PHASE_W` bits. -/
  spaceStep : BitVec 16
  /-- `markStep`, `PHASE_W` bits. -/
  markStep : BitVec 16
  /-- `qlen` (symbolQueueLength), the delay-line length this pair asks for. -/
  qlen : Nat
  /-- `pol` (polarity), XORed into the symbol decision. -/
  pol : Bool
  deriving DecidableEq, Repr

/-- The static configuration record of `00_scope.md` section 5.2. The counts are numbers; `Cfg.wf`
(WellFormed.lean) holds each to the width and range of the spec's table. -/
structure Cfg where
  /-- `sampleRate`, sample ticks per second. -/
  sampleRate : Nat
  /-- `baud`, bits per second. -/
  baud : Nat
  /-- `dataBits`, data bits per frame. -/
  dataBits : Nat
  /-- `carrierBits`, the preamble length in bit periods. -/
  carrierBits : Nat
  /-- `trailBits`, the trail-carrier length in bit periods. -/
  trailBits : Nat
  /-- `cdTicks`, the carrier-detect duration in sample ticks. -/
  cdTicks : Nat
  /-- `backToBack`: STOP_BIT may go directly to START_BIT. -/
  backToBack : Bool
  /-- `fifoLog2`: both FIFOs hold `2^fifoLog2` bytes. -/
  fifoLog2 : Nat
  /-- `tone[0]`, the pair of the originating side. -/
  tone0 : TonePair
  /-- `tone[1]`, the pair of the answering side. -/
  tone1 : TonePair
  deriving DecidableEq, Repr

/-- `CFG0`, the reference configuration of `00_scope.md` section 5.2. -/
def cfg0 : Cfg where
  sampleRate := 9600
  baud := 300
  dataBits := 8
  carrierBits := 4
  trailBits := 2
  cdTicks := 64
  backToBack := true
  fifoLog2 := 6
  tone0 :=
    { spaceFreq := 1070, markFreq := 1270, spaceStep := 7305, markStep := 8670, qlen := 10, pol := true }
  tone1 :=
    { spaceFreq := 2025, markFreq := 2225, spaceStep := 13824, markStep := 15189, qlen := 8, pol := false }

end Sys2Proof
end

