-- ==== Sys2Proof/Machine/Params.lean ====
section
/-! DEFINITION. The constants that every rule derives from `Cfg` (`00_scope.md` R3), the step function `StepOf`
(`40_wavetable.md` R71) and the FIFO watermarks (`41_bytefifo.md` R88). They stand under Machine/ so that a later
repair may mend them. -/

namespace Sys2Proof

/-- `StepOf(f, r)`, the phase increment of a tone of `f` Hz at `r` samples per second, rounded to nearest with
ties up (R71). -/
def stepOf (f r : Nat) : Nat := (2 * fullPeriod * 2 ^ fracBits * f + r) / (2 * r)

/-- `N = floor(sampleRate / baud)`, the samples of one bit period (R3). -/
def Cfg.bitLen (c : Cfg) : Nat := c.sampleRate / c.baud

/-- `HALF = N >> 1` (R3). -/
def Cfg.halfBit (c : Cfg) : Nat := c.bitLen / 2

/-- `QUARTER = N >> 2` (R3). -/
def Cfg.quarterBit (c : Cfg) : Nat := c.bitLen / 4

/-- `EIGHTH = N >> 3` (R3). -/
def Cfg.eighthBit (c : Cfg) : Nat := c.bitLen / 8

/-- `CAP = 2^fifoLog2`, the capacity of each FIFO (R3). -/
def Cfg.cap (c : Cfg) : Nat := 2 ^ c.fifoLog2

/-- `CD_THRESH = cdTicks − (cdTicks >> 4)`, the carrier-detect threshold (R3). -/
def Cfg.cdThresh (c : Cfg) : Nat := c.cdTicks - c.cdTicks / 16

/-- `WM_LOW = CAP >> 2` (R88). -/
def Cfg.wmLow (c : Cfg) : Nat := c.cap / 4

/-- `WM_MED = CAP >> 1` (R88). -/
def Cfg.wmMed (c : Cfg) : Nat := c.cap / 2

/-- `WM_HIGH = CAP − (CAP >> 2)` (R88). -/
def Cfg.wmHigh (c : Cfg) : Nat := c.cap - c.cap / 4

end Sys2Proof
end

