-- ==== Sys2Proof/Syntax.lean ====
section
/-! DEFINITION. The operations of the block: one constructor of `Instr` for each row of spec/opcode_table.json. -/

namespace Sys2Proof

/-- `dir`, and operand `d` of SETDIR (`30_encoding.md` R58): ORIGINATING = 0, ANSWERING = 1. -/
inductive Direction where
  | originating
  | answering
  deriving DecidableEq, Repr

/-- `mode`, and operand `b` of SETLINE (`30_encoding.md` R58): COMMAND = 0 (line off), DATA = 1 (line on). -/
inductive LineMode where
  | command
  | data
  deriving DecidableEq, Repr

/-- The operation set. The ten host commands and the six reserved opcodes arrive on the command port, `tick` on
the tick port (`30_encoding.md` R55). The sixteen sub-operations of TICK arrive on no port: the state registers
select them inside a TICK; each constructor carries the operand that its row in the table names. -/
inductive Instr where
  /-- NOP, `46_tick_and_control.md` R162. -/
  | nop
  /-- PUSHTX, `41_bytefifo.md` R91. -/
  | pushtx (v : Byte)
  /-- POPRX, `41_bytefifo.md` R92. -/
  | poprx
  /-- STATUS, `46_tick_and_control.md` R163. -/
  | status
  /-- TXLEN, `41_bytefifo.md` R93. -/
  | txlen
  /-- RXLEN, `41_bytefifo.md` R94. -/
  | rxlen
  /-- SETDIR, `46_tick_and_control.md` R165. -/
  | setdir (d : Direction) (r : Bool)
  /-- SETLINE, `46_tick_and_control.md` R164. -/
  | setline (b : LineMode)
  /-- TXCARRIER, `46_tick_and_control.md` R166. -/
  | txcarrier (b : Bool)
  /-- RXCARRIER, `46_tick_and_control.md` R168. -/
  | rxcarrier (b : Bool)
  /-- RESERVED_A, `46_tick_and_control.md` R169. -/
  | reservedA (low : BitVec 12)
  /-- RESERVED_B, `46_tick_and_control.md` R169. -/
  | reservedB (low : BitVec 12)
  /-- RESERVED_C, `46_tick_and_control.md` R169. -/
  | reservedC (low : BitVec 12)
  /-- RESERVED_D, `46_tick_and_control.md` R169. -/
  | reservedD (low : BitVec 12)
  /-- RESERVED_E, `46_tick_and_control.md` R169. -/
  | reservedE (low : BitVec 12)
  /-- RESERVED_F, `46_tick_and_control.md` R169. -/
  | reservedF (low : BitVec 12)
  /-- TICK, `46_tick_and_control.md` R160. -/
  | tick (adc : Byte)
  /-- TXSTEP, `43_txframer.md` R110. -/
  | txstep
  /-- TXSTEP.WAIT, `43_txframer.md` R112. -/
  | txstepWait
  /-- TXSTEP.PREAMBLE, `43_txframer.md` R113. -/
  | txstepPreamble
  /-- TXSTEP.START_BIT, `43_txframer.md` R114. -/
  | txstepStartBit
  /-- TXSTEP.DATA_BIT, `43_txframer.md` R115. -/
  | txstepDataBit
  /-- TXSTEP.STOP_BIT, `43_txframer.md` R117. -/
  | txstepStopBit
  /-- TXSTEP.TRAIL, `43_txframer.md` R118. -/
  | txstepTrail
  /-- WAVE, `40_wavetable.md` R76 and R77. -/
  | wave
  /-- DEMOD, `44_rxdemodulator.md` R130. -/
  | demod (adc : Byte)
  /-- RXSTEP, `45_rxframer.md` R140. -/
  | rxstep (sym : Bool)
  /-- RXSTEP.CARRIER, `45_rxframer.md` R141. -/
  | rxstepCarrier (sym : Bool)
  /-- RXSTEP.WAIT, `45_rxframer.md` R142. -/
  | rxstepWait
  /-- RXSTEP.PREAMBLE, `45_rxframer.md` R143. -/
  | rxstepPreamble (sym : Bool)
  /-- RXSTEP.START_BIT, `45_rxframer.md` R144. -/
  | rxstepStartBit (sym : Bool)
  /-- RXSTEP.DATA_BIT, `45_rxframer.md` R146. -/
  | rxstepDataBit (sym : Bool)
  /-- RXSTEP.STOP_BIT, `45_rxframer.md` R148. -/
  | rxstepStopBit (sym : Bool)
  deriving DecidableEq, Repr

end Sys2Proof
end

