-- ==== Sys2Proof/Machine/State.lean ====
section
/-! DEFINITION. The state of the block (`10_state.md`) as plain data, its reset value (`70_reset_and_hazards.md`
R200), and the reasons a step can stop. -/

namespace Sys2Proof.Machine

/-- The symbol the TxFramer selects (`30_encoding.md` R58): SPACE = 0, MARK = 1, NONE = 2. -/
inductive TxSym where
  | space
  | mark
  | none
  deriving DecidableEq, Repr

/-- `tx.state` (`10_state.md` section 4), in the order of its codes 0 to 5. -/
inductive TxState where
  | wait
  | preamble
  | startBit
  | dataBit
  | stopBit
  | trail
  deriving DecidableEq, Repr

/-- `rx.state` (`10_state.md` section 4), in the order of its codes 0 to 5. -/
inductive RxState where
  | carrier
  | wait
  | preamble
  | startBit
  | dataBit
  | stopBit
  deriving DecidableEq, Repr

/-- A small memory as a list of (address, byte) pairs: addresses strictly rising, and no entry equal to what an
unlisted address reads as (`Memory.wf` in Machine/Ops.lean). -/
abbrev Memory := List Host.Cell

/-- One byte FIFO (`41_bytefifo.md` R80): ring storage and the two free-running indices, each counting modulo
`2·CAP`. Their width `fifoLog2 + 1` depends on `Cfg`, so they are numbers (log entry 12, DESIGN CHOICE). -/
structure Fifo where
  /-- `buf[0 .. CAP−1]`. -/
  buf : Memory
  /-- `wr`, the count of bytes ever enqueued, modulo `2·CAP`. -/
  wr : Nat
  /-- `rd`, the count of bytes ever dequeued, modulo `2·CAP`. -/
  rd : Nat
  deriving DecidableEq, Repr

/-- The TX frame state (`10_state.md` R11). -/
structure TxRegs where
  /-- `tx.state`. -/
  state : TxState
  /-- `tx.carrier`, the persistent-carrier request (R13). -/
  carrier : Bool
  /-- `tx.active`, a burst is in progress (R14). -/
  active : Bool
  /-- `tx.byte`, 8 bits. -/
  byte : BitVec 8
  /-- `tx.bits`, 8 bits, the one counter of preamble periods, data bits and trail periods. -/
  bits : BitVec 8
  /-- `tx.sym`. -/
  sym : TxSym
  /-- `tx.clk`, 16 bits, ticks within the bit period. -/
  clk : BitVec 16
  deriving DecidableEq, Repr

/-- The RX frame state (`10_state.md` R12), with the flag `rx.carrier` of its section 3. -/
structure RxRegs where
  /-- `rx.state`. -/
  state : RxState
  /-- `rx.carrier`, carrier declared present. -/
  carrier : Bool
  /-- `rx.bitSum`, 16 bits, HIGH symbols of this window. -/
  bitSum : BitVec 16
  /-- `rx.bitClock`, 16 bits, samples of this window. -/
  bitClock : BitVec 16
  /-- `rx.sr`, 2 bits, bit 0 the newest symbol. -/
  sr : BitVec 2
  /-- `rx.byte`, 8 bits. -/
  byte : BitVec 8
  /-- `rx.bits`, 4 bits. -/
  bits : BitVec 4
  /-- `rx.cdCount`, 16 bits. -/
  cdCount : BitVec 16
  deriving DecidableEq, Repr

/-- The four filter taps (`10_state.md` section 5), two's complement. -/
structure IirTaps where
  /-- `iir.x0`, the older input. -/
  x0 : BitVec 16
  /-- `iir.x1`, the newer input. -/
  x1 : BitVec 16
  /-- `iir.y0`, the older output. -/
  y0 : BitVec 18
  /-- `iir.y1`, the newer output. -/
  y1 : BitVec 18
  deriving DecidableEq, Repr

/-- The delay line (`10_state.md` R19): a sequence of at least one raw sample, the oldest first (log entry 11,
DESIGN CHOICE). -/
structure DelayLine where
  /-- `delay[0]`, the oldest sample. -/
  oldest : Byte
  /-- `delay[1 .. L−1]`, in order. -/
  newer : List Byte
  deriving DecidableEq, Repr

/-- What the input ports carry at one instant (`30_encoding.md` R50): the reset pin with the configuration then
presented, the sample strobe with `adc`, and `cmd_valid` with `cmd` (log entry 3, DESIGN CHOICE). -/
structure PortInput where
  /-- `rst` is asserted and then released, with this `Cfg` on the static inputs. -/
  rst : Option Cfg := none
  /-- `tick_stb` is asserted with this sample on `adc`. -/
  adc : Option Byte := none
  /-- `cmd_valid` is asserted with this word on `cmd`. -/
  cmd : Option Word := none
  deriving DecidableEq, Repr

/-- The state of the block. `cfg` is the static input `Cfg` (`10_state.md` R16); `dac` and `rsp` are the values the
output ports hold (`30_encoding.md` R50; log entry 10, DEDUCED); `inputs` is the model's own: what the environment
will present at the input ports, in the total order of `20_memory.md` R34, the next first (log entry 2, DESIGN
CHOICE). -/
structure State where
  /-- `Cfg`, constant from one reset to the next (`00_scope.md` R2). -/
  cfg : Cfg
  /-- The model's own field: the rest of the event trace. -/
  inputs : List PortInput
  /-- `mode`. -/
  mode : LineMode
  /-- `dir`. -/
  dir : Direction
  /-- `rev`. -/
  rev : Bool
  /-- `phase`, 16 bits, 8.8 fixed point. -/
  phase : BitVec 16
  /-- `tx.*`. -/
  tx : TxRegs
  /-- `rx.*`. -/
  rx : RxRegs
  /-- `iir.*`. -/
  iir : IirTaps
  /-- `delay`. -/
  delay : DelayLine
  /-- `TXF`. -/
  txf : Fifo
  /-- `RXF`. -/
  rxf : Fifo
  /-- The `dac` port. -/
  dac : Byte
  /-- The `rsp` port. -/
  rsp : Word
  deriving DecidableEq, Repr

/-- The reasons a step stops with a fault: none. The block raises no trap (`60_exceptions.md` R180), every
operation completes, and no access of it can leave its range (`20_memory.md` R32). -/
inductive Fault where
  deriving DecidableEq, Repr

/-- The reasons a step has no meaning. -/
inductive Refusal where
  /-- Raised by `exec` for an instruction that has no meaning yet; no arm of this model raises it. Safe: the model
  stops. -/
  | notModelled (mnemonic : String)
  /-- Raised by `step` when an operation, or a release of reset, meets a configuration that is not well-formed
  (`93_implementation_defined.md` U6). Safe: the model stops. -/
  | cfgIllFormed
  deriving DecidableEq, Repr

/-- An empty FIFO, as reset leaves it (R200). -/
def Fifo.emptied : Fifo := { buf := [], wr := 0, rd := 0 }

/-- The TX frame state after reset (R200). -/
def TxRegs.reset : TxRegs :=
  { state := .wait, carrier := false, active := false, byte := 0, bits := 0, sym := .none, clk := 0 }

/-- The RX frame state after reset (R200). -/
def RxRegs.reset : RxRegs :=
  { state := .carrier, carrier := false, bitSum := 0, bitClock := 0, sr := 0, byte := 0, bits := 0, cdCount := 0 }

/-- The filter taps cleared (R200). -/
def IirTaps.zero : IirTaps := { x0 := 0, x1 := 0, y0 := 0, y1 := 0 }

/-- A delay line of `n` entries of `BIAS`, for `n ≥ 1` (R200, R165 step 4). -/
def DelayLine.quiet (n : Nat) : DelayLine := { oldest := bias, newer := List.replicate (n - 1) bias }

/-- The state when `rst` is released with the configuration `c` presented and no input yet to come (R200). -/
def State.resetWith (c : Cfg) : State where
  cfg := c
  inputs := []
  mode := .command
  dir := .originating
  rev := false
  phase := 0
  tx := TxRegs.reset
  rx := RxRegs.reset
  iir := IirTaps.zero
  delay := DelayLine.quiet c.tone1.qlen
  txf := Fifo.emptied
  rxf := Fifo.emptied
  dac := bias
  rsp := 0

/-- The machine right after reset with the reference configuration `CFG0` presented. The spec gives `Cfg` no reset
value ("it is whatever the environment presents", R16); log entry 1 (DESIGN CHOICE). -/
def State.reset : State := State.resetWith cfg0

/-- Replace the inputs yet to come. -/
def State.setInputs (s : State) (v : List PortInput) : State := { s with inputs := v }
/-- Write `mode`. -/
def State.setMode (s : State) (v : LineMode) : State := { s with mode := v }
/-- Write `dir` and `rev` together (R165 step 1). -/
def State.setDirRev (s : State) (d : Direction) (r : Bool) : State := { s with dir := d, rev := r }
/-- Write `phase`. -/
def State.setPhase (s : State) (v : BitVec 16) : State := { s with phase := v }
/-- Write the TX frame state. -/
def State.setTx (s : State) (v : TxRegs) : State := { s with tx := v }
/-- Write the RX frame state. -/
def State.setRx (s : State) (v : RxRegs) : State := { s with rx := v }
/-- Write the filter taps. -/
def State.setIir (s : State) (v : IirTaps) : State := { s with iir := v }
/-- Write the delay line. -/
def State.setDelay (s : State) (v : DelayLine) : State := { s with delay := v }
/-- Write `TXF`. -/
def State.setTxf (s : State) (v : Fifo) : State := { s with txf := v }
/-- Write `RXF`. -/
def State.setRxf (s : State) (v : Fifo) : State := { s with rxf := v }
/-- Drive the `dac` port. -/
def State.setDac (s : State) (v : Byte) : State := { s with dac := v }
/-- Drive the `rsp` port. -/
def State.setRsp (s : State) (v : Word) : State := { s with rsp := v }

end Sys2Proof.Machine
end

