-- ==== Sys2Proof/Machine/Ops.lean ====
section
/-! DEFINITION. The named operations over the FIFO buffers, the FIFOs (`41_bytefifo.md` R80 to R87), the delay line
(`44_rxdemodulator.md` R132) and the registers that several operations share. The block takes no exception
(`60_exceptions.md` R180, R189): what stands in its place is the ERR response, `reservedCommand`. -/

namespace Sys2Proof.Machine

/-- What a buffer entry that nothing has written reads as. The spec leaves it unspecified and unobservable
(`41_bytefifo.md` R86, `93_implementation_defined.md` U2); log entry 4 (DESIGN CHOICE). -/
def unlistedByte : Byte := 0

/-- `MemRead(M, a)` (`00_scope.md` section 8). -/
def Memory.read : Memory → Nat → Byte
  | [], _ => unlistedByte
  | (b, v) :: m, a => if b = a then v else Memory.read m a

/-- `MemWrite(M, a, v)` (`00_scope.md` section 8), keeping the canonical form. -/
def Memory.write : Memory → Nat → Byte → Memory
  | [], a, v => if v = unlistedByte then [] else [(a, v)]
  | (b, w) :: m, a, v =>
    if a < b then
      if v = unlistedByte then (b, w) :: m else (a, v) :: (b, w) :: m
    else if a = b then
      if v = unlistedByte then m else (a, v) :: m
    else (b, w) :: Memory.write m a v

/-- The canonical form: addresses strictly rising, no entry equal to what an unlisted address reads as. -/
def Memory.wf : Memory → Bool
  | [] => true
  | (a, v) :: m => v != unlistedByte && m.all (fun c => decide (a < c.1)) && Memory.wf m

/-- `len(Q) = (wr − rd) mod (2·CAP)` (R81), written with natural numbers. -/
def Fifo.len (cap : Nat) (q : Fifo) : Nat := (q.wr + (2 * cap - q.rd % (2 * cap))) % (2 * cap)

/-- `empty(Q) = (wr = rd)` (R82). -/
def Fifo.empty (q : Fifo) : Bool := q.wr == q.rd

/-- `full(Q) = (len(Q) = CAP)` (R83). -/
def Fifo.full (cap : Nat) (q : Fifo) : Bool := q.len cap == cap

/-- `in(Q, byte)` on a FIFO that is not full (R84): store the byte, then advance `wr`. -/
def Fifo.push (cap : Nat) (q : Fifo) (b : Byte) : Fifo :=
  { q with buf := Memory.write q.buf (q.wr % cap) b, wr := (q.wr + 1) % (2 * cap) }

/-- `in(Q, byte) -> bool` (R84): on a full FIFO nothing changes and the answer is 0. -/
def Fifo.enqueue (cap : Nat) (q : Fifo) (b : Byte) : Bool × Fifo :=
  if q.full cap then (false, q) else (true, q.push cap b)

/-- `out(Q) -> byte` (R85), none on an empty FIFO (`93_implementation_defined.md` U1): read the entry, then advance
`rd`. -/
def Fifo.dequeue (cap : Nat) (q : Fifo) : Option (Byte × Fifo) :=
  if q.empty then none
  else some (Memory.read q.buf (q.rd % cap), { q with rd := (q.rd + 1) % (2 * cap) })

/-- `Q.items`, the bytes held, oldest first: `items[k] = buf[(rd + k) mod CAP]` for `0 ≤ k < len(Q)` (R80). -/
def Fifo.items (cap : Nat) (q : Fifo) : List Byte :=
  (List.range (q.len cap)).map (fun k => Memory.read q.buf ((q.rd + k) % cap))

/-- The bytes of a list enqueued one after another, with each call's answer (R87). -/
def Fifo.enqueueAll (cap : Nat) : Fifo → List Byte → List Bool × Fifo
  | q, [] => ([], q)
  | q, b :: bs =>
    let r := q.enqueue cap b
    let rest := Fifo.enqueueAll cap r.2 bs
    (r.1 :: rest.1, rest.2)

/-- `n` calls of `out` one after another, stopping where the FIFO is empty (R87). -/
def Fifo.dequeueMany (cap : Nat) : Nat → Fifo → List Byte × Fifo
  | 0, q => ([], q)
  | n + 1, q =>
    match q.dequeue cap with
    | none => ([], q)
    | some (b, q1) =>
      let rest := Fifo.dequeueMany cap n q1
      (b :: rest.1, rest.2)

/-- The delay line as a sequence, `delay[0]` first. -/
def DelayLine.toList (d : DelayLine) : List Byte := d.oldest :: d.newer

/-- Discard `delay[0]` and append the new raw sample (R130 step 4): the length stays. -/
def DelayLine.push (d : DelayLine) (a : Byte) : DelayLine :=
  match d.newer with
  | [] => { oldest := a, newer := [] }
  | b :: bs => { oldest := b, newer := bs ++ [a] }

/-- RXCLEAR (`46_tick_and_control.md` R167). -/
def RxRegs.cleared (r : RxRegs) : RxRegs :=
  { r with bitSum := 0, bitClock := 0, bits := 0, byte := 0, sr := 0, cdCount := 0 }

/-- Every reserved command word: `rsp <- 0x8000`, no other change (`46_tick_and_control.md` R169; log entry 7,
DESIGN CHOICE). -/
def reservedCommand (s : State) : State := s.setRsp 0x8000

end Sys2Proof.Machine
end

