-- ==== Sys2Proof/Machine/Operands.lean ====
section
/-! DEFINITION. Where operands come from: the tone pairs of the two directions (`42_tone_direction.md`) and the
recentred sample (`44_rxdemodulator.md` R131). -/

namespace Sys2Proof.Machine

/-- `sel = dir ^ rev` (R101): false behaves as originator, true as answerer. -/
def pairSel (s : State) : Bool := (s.dir == .answering) ^^ s.rev

/-- `txPair = Cfg.tone[sel]` (R101). -/
def txPair (s : State) : TonePair := if pairSel s then s.cfg.tone1 else s.cfg.tone0

/-- `rxPair = Cfg.tone[1 − sel]` (R101). -/
def rxPair (s : State) : TonePair := if pairSel s then s.cfg.tone0 else s.cfg.tone1

/-- `stepFor(sym)` (R102). -/
def stepFor (s : State) : TxSym → BitVec 16
  | .space => (txPair s).spaceStep
  | .mark => (txPair s).markStep
  | .none => 0

/-- `v − BIAS`, a signed number in −128 .. 127 (R131). -/
def recentre (v : Byte) : Int := (v.toNat : Int) - bias.toNat

end Sys2Proof.Machine
end

