-- ==== Sys2Proof/Machine/Flags.lean ====
section
/-! DEFINITION. The occupancy gates (`41_bytefifo.md` R89, R90) and the STATUS word (`10_state.md` R15). -/

namespace Sys2Proof.Machine

/-- `txGate = (mode = DATA) and not empty(TXF)` (R89). -/
def txGate (s : State) : Bool := s.mode == .data && !s.txf.empty

/-- `rxGate = (mode = DATA) and not full(RXF)` (R90). -/
def rxGate (s : State) : Bool := s.mode == .data && !s.rxf.full s.cfg.cap

/-- A word from its bits, bit 0 first. -/
def packBits : List Bool → Nat
  | [] => 0
  | b :: bs => b.toNat + 2 * packBits bs

/-- The thirteen STATUS bits, bit 0 first (R15). -/
def statusBits (s : State) : List Bool := [
  s.mode == .data,
  s.dir == .answering,
  s.rev,
  s.tx.carrier,
  s.tx.active,
  s.rx.carrier,
  s.txf.empty,
  s.txf.full s.cfg.cap,
  s.rxf.empty,
  s.rxf.full s.cfg.cap,
  decide (s.cfg.wmLow ≤ s.txf.len s.cfg.cap),
  decide (s.cfg.wmMed ≤ s.txf.len s.cfg.cap),
  decide (s.cfg.wmHigh ≤ s.txf.len s.cfg.cap)]

/-- The STATUS word; bits 13 to 15 read 0 (R15). -/
def statusWord (s : State) : Word := BitVec.ofNat 16 (packBits (statusBits s))

end Sys2Proof.Machine
end

