-- ==== Sys2Proof/Machine/Control.lean ====
section
/-! DEFINITION. The control commands and the reserved opcodes (`46_tick_and_control.md` R162 to R169). -/

namespace Sys2Proof.Machine

/-- NOP (R162). -/
def execNop (s : State) : Host.Outcome State Fault Refusal := .next (s.setRsp 0)

/-- STATUS (R163). -/
def execStatus (s : State) : Host.Outcome State Fault Refusal := .next (s.setRsp (statusWord s))

/-- SETLINE (R164). -/
def execSetline (b : LineMode) (s : State) : Host.Outcome State Fault Refusal :=
  .next ((s.setMode b).setRsp 0)

/-- SETDIR (R165), its steps in order; the delay line has the length of the newly selected receive pair. -/
def execSetdir (d : Direction) (r : Bool) (s : State) : Host.Outcome State Fault Refusal :=
  let s1 := s.setDirRev d r
  let s2 := s1.setRx { s1.rx.cleared with state := .carrier, carrier := false }
  let s3 := s2.setDelay (DelayLine.quiet (rxPair s2).qlen)
  .next ((s3.setIir IirTaps.zero).setRsp 0)

/-- TXCARRIER (R166). -/
def execTxcarrier (b : Bool) (s : State) : Host.Outcome State Fault Refusal :=
  .next ((s.setTx { s.tx with carrier := b }).setRsp 0)

/-- RXCARRIER (R168): ON skips the carrier search, OFF starts it again and clears the filter. -/
def execRxcarrier (b : Bool) (s : State) : Host.Outcome State Fault Refusal :=
  if b then
    .next ((s.setRx { s.rx.cleared with carrier := true, state := .wait }).setRsp 0)
  else
    .next (((s.setRx { s.rx.cleared with carrier := false, state := .carrier }).setIir IirTaps.zero).setRsp 0)

/-- RESERVED_A (R169). -/
def execReservedA (_low : BitVec 12) (s : State) : Host.Outcome State Fault Refusal := .next (reservedCommand s)

/-- RESERVED_B (R169). -/
def execReservedB (_low : BitVec 12) (s : State) : Host.Outcome State Fault Refusal := .next (reservedCommand s)

/-- RESERVED_C (R169). -/
def execReservedC (_low : BitVec 12) (s : State) : Host.Outcome State Fault Refusal := .next (reservedCommand s)

/-- RESERVED_D (R169). -/
def execReservedD (_low : BitVec 12) (s : State) : Host.Outcome State Fault Refusal := .next (reservedCommand s)

/-- RESERVED_E (R169). -/
def execReservedE (_low : BitVec 12) (s : State) : Host.Outcome State Fault Refusal := .next (reservedCommand s)

/-- RESERVED_F (R169). -/
def execReservedF (_low : BitVec 12) (s : State) : Host.Outcome State Fault Refusal := .next (reservedCommand s)

end Sys2Proof.Machine
end

