-- ==== Sys2Proof/Machine/HostFifo.lean ====
section
/-! DEFINITION. The four host commands on the FIFOs (`41_bytefifo.md` R91 to R94). -/

namespace Sys2Proof.Machine

/-- PUSHTX (R91): accepted in either mode; `rsp` bit 0 says whether the byte was enqueued. -/
def execPushtx (v : Byte) (s : State) : Host.Outcome State Fault Refusal :=
  let r := s.txf.enqueue s.cfg.cap v
  .next ((s.setTxf r.2).setRsp (if r.1 then 1 else 0))

/-- POPRX (R92): `rsp` bit 8 is `valid`, bits 7:0 the byte; an empty FIFO answers 0. -/
def execPoprx (s : State) : Host.Outcome State Fault Refusal :=
  match s.rxf.dequeue s.cfg.cap with
  | none => .next (s.setRsp 0)
  | some (b, q) => .next ((s.setRxf q).setRsp (0x0100 ||| b.setWidth 16))

/-- TXLEN (R93). -/
def execTxlen (s : State) : Host.Outcome State Fault Refusal :=
  .next (s.setRsp (BitVec.ofNat 16 (s.txf.len s.cfg.cap)))

/-- RXLEN (R94). -/
def execRxlen (s : State) : Host.Outcome State Fault Refusal :=
  .next (s.setRsp (BitVec.ofNat 16 (s.rxf.len s.cfg.cap)))

end Sys2Proof.Machine
end

