-- ==== Sys2Proof/Machine/RxDemod.lean ====
section
/-! DEFINITION. The RxDemodulator (`44_rxdemodulator.md`): the DEMOD sub-operation and its symbol. -/

namespace Sys2Proof.Machine

/-- The signed value of a tap's new content, kept in its two's complement register (R130 step 5). R134 shows that
nothing is lost where the taps are in their ranges (log entry 5, DESIGN CHOICE). -/
def iirNext (t : IirTaps) (p : Int) : IirTaps where
  x0 := t.x1
  x1 := BitVec.ofInt 16 p
  y0 := t.y1
  y1 := BitVec.ofInt 18 (t.x1.toInt + (BitVec.ofInt 16 p).toInt + t.y1.toInt / 2)

/-- DEMOD, less the symbol (R130 steps 1 to 5): the product of the new sample and the oldest held one, the delay
line, the filter. -/
def demod (adc : Byte) (s : State) : State :=
  (s.setIir (iirNext s.iir (recentre adc * recentre s.delay.oldest))).setDelay (s.delay.push adc)

/-- The symbol that DEMOD hands to RXSTEP (R130 step 6, R135): `(iir.y1 > 0) ^ rxPair.pol`, on the state DEMOD
leaves. It is stored nowhere (log entry 9, DEDUCED). -/
def demodSymbol (s : State) : Bool := decide (0 < s.iir.y1.toInt) ^^ (rxPair s).pol

/-- The sub-operation DEMOD. -/
def execDemod (adc : Byte) (s : State) : Host.Outcome State Fault Refusal := .next (demod adc s)

end Sys2Proof.Machine
end

