-- ==== Sys2Proof/Machine/RxFramer.lean ====
section
/-! DEFINITION. The RxFramer (`45_rxframer.md`): RXSTEP and its six state rules. -/

namespace Sys2Proof.Machine

/-- `rx.sr <- ((rx.sr << 1) | sym) & 0b11` (R140 step 1). -/
def shiftSymbol (sr : BitVec 2) (sym : Bool) : BitVec 2 := BitVec.ofNat 2 (2 * sr.toNat + sym.toNat)

/-- `rx.bitSum + sym`, before it is stored. -/
def nextSum (sym : Bool) (s : State) : Nat := s.rx.bitSum.toNat + sym.toNat

/-- `rx.bitClock + 1`, before it is stored. -/
def nextClock (s : State) : Nat := s.rx.bitClock.toNat + 1

/-- `rx.bitSum <- s ; rx.bitClock <- c`, the two assignments that open R143, R144 and R148. A count that does not fit
its register, which the rules exclude, keeps its low bits (log entry 5, DESIGN CHOICE). -/
def countSymbol (sym : Bool) (s : State) : RxRegs :=
  { s.rx with bitSum := BitVec.ofNat 16 (nextSum sym s), bitClock := BitVec.ofNat 16 (nextClock s) }

/-- RXSTEP.CARRIER (R141). -/
def rxCarrier (sym : Bool) (s : State) : State :=
  if sym then
    let c := s.rx.cdCount.toNat + 1
    if s.cfg.cdThresh ≤ c then
      s.setRx { s.rx with cdCount := BitVec.ofNat 16 c, carrier := true, state := .wait }
    else s.setRx { s.rx with cdCount := BitVec.ofNat 16 c }
  else s.setRx { s.rx with cdCount := 0 }

/-- RXSTEP.WAIT (R142). -/
def rxWait (s : State) : State :=
  if s.rx.sr = 0b10 then s.setRx { s.rx with bitClock := 0, bitSum := 0, state := .preamble } else s

/-- RXSTEP.PREAMBLE (R143). -/
def rxPreamble (sym : Bool) (s : State) : State :=
  let r := countSymbol sym s
  if s.cfg.halfBit ≤ nextClock s then
    s.setRx { r with state := if s.cfg.eighthBit < nextSum sym s then .wait else .startBit }
  else s.setRx r

/-- RXSTEP.START_BIT (R144). -/
def rxStartBit (sym : Bool) (s : State) : State :=
  let r := countSymbol sym s
  if s.cfg.bitLen ≤ nextClock s then
    if s.cfg.quarterBit < nextSum sym s then s.setRx { r with state := .wait }
    else s.setRx { r with state := .dataBit, bitSum := 0, bitClock := 0, bits := 0 }
  else s.setRx r

/-- `(rx.byte >> 1) | (bit << 7)`: the incoming bit enters at bit 7 (R146). -/
def shiftInBit (byte : Byte) (bit : Bool) : Byte := (byte >>> 1) ||| (if bit then 0x80 else 0)

/-- RXSTEP.DATA_BIT (R146). -/
def rxDataBit (sym : Bool) (s : State) : State :=
  if nextClock s < s.cfg.bitLen then s.setRx (countSymbol sym s)
  else
    let k := s.rx.bits.toNat + 1
    let r := { s.rx with
      byte := shiftInBit s.rx.byte (decide (s.cfg.halfBit < nextSum sym s)), bits := BitVec.ofNat 4 k, bitSum := 0 }
    if s.cfg.dataBits ≤ k then
      s.setRx { r with state := .stopBit, bitClock := BitVec.ofNat 16 s.cfg.halfBit }
    else s.setRx { r with bitClock := 0 }

/-- `rx.byte >> (8 − dataBits)`, the received bits right-aligned (R147). -/
def receivedByte (s : State) : Byte := s.rx.byte >>> (8 - s.cfg.dataBits)

/-- RXSTEP.STOP_BIT (R148): a valid byte enters `RXF` under `rxGate` (`41_bytefifo.md` R90). -/
def rxStopBit (sym : Bool) (s : State) : State :=
  let r := countSymbol sym s
  if s.cfg.bitLen ≤ nextClock s then
    let s1 := s.setRx { r with state := .wait }
    if decide (s.cfg.quarterBit < nextSum sym s) && rxGate s then
      s1.setRxf (s.rxf.enqueue s.cfg.cap (receivedByte s)).2
    else s1
  else s.setRx r

/-- RXSTEP (R140): the shift register, then the rule that `rx.state` selects. -/
def rxStep (sym : Bool) (s : State) : State :=
  let s1 := s.setRx { s.rx with sr := shiftSymbol s.rx.sr sym }
  match s.rx.state with
  | .carrier => rxCarrier sym s1
  | .wait => rxWait s1
  | .preamble => rxPreamble sym s1
  | .startBit => rxStartBit sym s1
  | .dataBit => rxDataBit sym s1
  | .stopBit => rxStopBit sym s1

/-- The sub-operation RXSTEP. -/
def execRxstep (sym : Bool) (s : State) : Host.Outcome State Fault Refusal := .next (rxStep sym s)

/-- The sub-operation RXSTEP.CARRIER. -/
def execRxstepCarrier (sym : Bool) (s : State) : Host.Outcome State Fault Refusal := .next (rxCarrier sym s)

/-- The sub-operation RXSTEP.WAIT. -/
def execRxstepWait (s : State) : Host.Outcome State Fault Refusal := .next (rxWait s)

/-- The sub-operation RXSTEP.PREAMBLE. -/
def execRxstepPreamble (sym : Bool) (s : State) : Host.Outcome State Fault Refusal := .next (rxPreamble sym s)

/-- The sub-operation RXSTEP.START_BIT. -/
def execRxstepStartBit (sym : Bool) (s : State) : Host.Outcome State Fault Refusal := .next (rxStartBit sym s)

/-- The sub-operation RXSTEP.DATA_BIT. -/
def execRxstepDataBit (sym : Bool) (s : State) : Host.Outcome State Fault Refusal := .next (rxDataBit sym s)

/-- The sub-operation RXSTEP.STOP_BIT. -/
def execRxstepStopBit (sym : Bool) (s : State) : Host.Outcome State Fault Refusal := .next (rxStopBit sym s)

end Sys2Proof.Machine
end

