-- ==== Sys2Proof/Machine/TxFramer.lean ====
section
/-! DEFINITION. The TxFramer (`43_txframer.md`): TXSTEP and its six state rules. -/

namespace Sys2Proof.Machine

/-- The symbol of one data bit: MARK for 1, SPACE for 0 (R114, R115). -/
def symOfBit (b : Bool) : TxSym := if b then .mark else .space

/-- `out(TXF)` under `txGate`, and nothing where the gate is false (`41_bytefifo.md` R89). -/
def txTake (s : State) : Option (Byte × State) :=
  if txGate s then
    match s.txf.dequeue s.cfg.cap with
    | some (b, q) => some (b, s.setTxf q)
    | none => none
  else none

/-- Select NONE and clear the phase (R112, R118). -/
def goSilent (s : State) : State := (s.setTx { s.tx with sym := .none }).setPhase 0

/-- Put bit 0 of `tx.byte` on the line, shift the byte right and set the count of data bits (R114, R115). -/
def sendBit (s : State) (count : BitVec 8) : State :=
  s.setTx { s.tx with sym := symOfBit (s.tx.byte.getLsbD 0), byte := s.tx.byte >>> 1, bits := count }

/-- `tx.bits + 1`, before it is stored (R113, R118). -/
def nextTxBits (s : State) : Nat := s.tx.bits.toNat + 1

/-- TXSTEP.WAIT (R112). -/
def txWait (s : State) : State :=
  match txTake s with
  | some (b, s1) =>
    s1.setTx { s1.tx with byte := b, bits := 0, active := true, state := .preamble, sym := .mark }
  | none =>
    if s.tx.carrier || s.tx.active then s.setTx { s.tx with sym := .mark } else goSilent s

/-- TXSTEP.PREAMBLE (R113). -/
def txPreamble (s : State) : State :=
  let b := nextTxBits s
  if s.tx.carrier || decide (s.cfg.carrierBits ≤ b) then
    s.setTx { s.tx with bits := BitVec.ofNat 8 b, state := .startBit, sym := .space }
  else
    s.setTx { s.tx with bits := BitVec.ofNat 8 b, sym := .mark }

/-- TXSTEP.START_BIT (R114). -/
def txStartBit (s : State) : State :=
  let s1 := sendBit s 1
  s1.setTx { s1.tx with state := .dataBit }

/-- TXSTEP.DATA_BIT (R115). -/
def txDataBit (s : State) : State :=
  if s.cfg.dataBits ≤ s.tx.bits.toNat then
    s.setTx { s.tx with state := .stopBit, sym := .mark }
  else sendBit s (s.tx.bits + 1)

/-- Start the next byte at once: its start bit begins now (R117, R118). -/
def startByte (b : Byte) (s : State) : State :=
  s.setTx { s.tx with byte := b, state := .startBit, sym := .space }

/-- TXSTEP.STOP_BIT (R117). -/
def txStopBit (s : State) : State :=
  match (if s.cfg.backToBack then txTake s else none) with
  | some (b, s1) => startByte b s1
  | none => s.setTx { s.tx with state := .trail, sym := .mark, bits := 0 }

/-- TXSTEP.TRAIL (R118): the four tests in the rule's order. -/
def txTrail (s : State) : State :=
  let b := nextTxBits s
  let s1 := s.setTx { s.tx with bits := BitVec.ofNat 8 b }
  if s.cfg.trailBits < b then
    if s.tx.carrier then s1.setTx { s1.tx with state := .wait, sym := .mark }
    else goSilent (s1.setTx { s1.tx with state := .wait, active := false })
  else
    match txTake s1 with
    | some (v, s2) => startByte v s2
    | none =>
      if b = s.cfg.trailBits && !s.tx.carrier then goSilent s1
      else s1.setTx { s1.tx with sym := .mark }

/-- BITSTEP (R111): the rule that `tx.state` selects. -/
def bitStep (s : State) : State :=
  match s.tx.state with
  | .wait => txWait s
  | .preamble => txPreamble s
  | .startBit => txStartBit s
  | .dataBit => txDataBit s
  | .stopBit => txStopBit s
  | .trail => txTrail s

/-- `(tx.clk + 1 = N) ? 0 : tx.clk + 1` (R110 step 2). -/
def nextTxClk (s : State) : BitVec 16 :=
  if s.tx.clk.toNat + 1 = s.cfg.bitLen then 0 else s.tx.clk + 1

/-- TXSTEP (R110): BITSTEP on a bit boundary, then the tick counter. -/
def txStep (s : State) : State :=
  let s1 := if s.tx.clk = 0 then bitStep s else s
  s1.setTx { s1.tx with clk := nextTxClk s }

/-- The sub-operation TXSTEP. -/
def execTxstep (s : State) : Host.Outcome State Fault Refusal := .next (txStep s)

/-- The sub-operation TXSTEP.WAIT. -/
def execTxstepWait (s : State) : Host.Outcome State Fault Refusal := .next (txWait s)

/-- The sub-operation TXSTEP.PREAMBLE. -/
def execTxstepPreamble (s : State) : Host.Outcome State Fault Refusal := .next (txPreamble s)

/-- The sub-operation TXSTEP.START_BIT. -/
def execTxstepStartBit (s : State) : Host.Outcome State Fault Refusal := .next (txStartBit s)

/-- The sub-operation TXSTEP.DATA_BIT. -/
def execTxstepDataBit (s : State) : Host.Outcome State Fault Refusal := .next (txDataBit s)

/-- The sub-operation TXSTEP.STOP_BIT. -/
def execTxstepStopBit (s : State) : Host.Outcome State Fault Refusal := .next (txStopBit s)

/-- The sub-operation TXSTEP.TRAIL. -/
def execTxstepTrail (s : State) : Host.Outcome State Fault Refusal := .next (txTrail s)

end Sys2Proof.Machine
end

