-- ==== Sys2Proof/Machine/Wave.lean ====
section
/-! DEFINITION. The WaveTable and the phase accumulator (`40_wavetable.md`): the ROM, `sample`, `lerp` and the WAVE
sub-operation. -/

namespace Sys2Proof.Machine

/-- `WAVE_Q[0 .. 63]`, the literal quarter-wave table of R72. -/
def waveQ : List Byte := [
  128, 131, 134, 137, 140, 144, 147, 150,
  153, 156, 159, 162, 165, 168, 171, 174,
  177, 179, 182, 185, 188, 191, 193, 196,
  199, 201, 204, 206, 209, 211, 213, 216,
  218, 220, 222, 224, 226, 228, 230, 232,
  234, 235, 237, 239, 240, 241, 243, 244,
  245, 246, 248, 249, 250, 250, 251, 252,
  253, 253, 254, 254, 254, 255, 255, 255]

/-- The position of a table index inside the quarter wave: bits 6:0, mirrored in the second quarter (R73). It is
always below 64. -/
def quarterIndex (idx : Byte) : Nat :=
  let h := idx.toNat % 128
  if 64 ≤ h then 127 - h else h

/-- `sample(idx)` (R73): the second half period is inverted around the bias. The list is never read outside its 64
entries (R32), so its default is never used. -/
def sample (idx : Byte) : Byte :=
  let v := waveQ.getD (quarterIndex idx) bias
  if 128 ≤ idx.toNat then BitVec.ofNat 8 (2 * bias.toNat - v.toNat) else v

/-- `lerp(v0, v1, t) = v0 + (((v1 − v0) · t) >> 8)` (R75). The datapath does not use it. -/
def lerp (v0 v1 t : Byte) : Byte :=
  BitVec.ofInt 8 ((v0.toNat : Int) + (((v1.toNat : Int) - v0.toNat) * t.toNat) / 256)

/-- WAVE: drive the DAC with the sample at `phase[15:8]` (R76), then advance the phase by the step of the selected
symbol, modulo `2^16` (R77). -/
def wave (s : State) : State :=
  (s.setDac (sample (s.phase.extractLsb' 8 8))).setPhase (s.phase + stepFor s s.tx.sym)

/-- The sub-operation WAVE. -/
def execWave (s : State) : Host.Outcome State Fault Refusal := .next (wave s)

end Sys2Proof.Machine
end

