-- ==== Sys2Proof/Machine/Tick.lean ====
section
/-! DEFINITION. The TICK operation (`46_tick_and_control.md` R160). -/

namespace Sys2Proof.Machine

/-- The transmit half of a TICK: TXSTEP, then WAVE (R160 steps 1 and 2, R161). -/
def tickTx (s : State) : State := wave (txStep s)

/-- The receive half of a TICK: DEMOD, then RXSTEP on its symbol (R160 steps 3 and 4, R161). -/
def tickRx (adc : Byte) (s : State) : State :=
  let s1 := demod adc s
  rxStep (demodSymbol s1) s1

/-- One sample period (R160): the four steps strictly in order. -/
def tick (adc : Byte) (s : State) : State := tickRx adc (tickTx s)

/-- TICK (R160). -/
def execTick (adc : Byte) (s : State) : Host.Outcome State Fault Refusal := .next (tick adc s)

end Sys2Proof.Machine
end

