-- ==== Sys2Proof/Machine/Dispatch.lean ====
section
/-! DEFINITION. One operation's meaning: one arm per constructor of `Instr`. -/

namespace Sys2Proof.Machine

open Sys2Proof

def exec (i : Instr) (s : State) : Host.Outcome State Fault Refusal :=
  match i with
  | .nop => Sys2Proof.Machine.execNop s
  | .pushtx v => Sys2Proof.Machine.execPushtx v s
  | .poprx => Sys2Proof.Machine.execPoprx s
  | .status => Sys2Proof.Machine.execStatus s
  | .txlen => Sys2Proof.Machine.execTxlen s
  | .rxlen => Sys2Proof.Machine.execRxlen s
  | .setdir d r => Sys2Proof.Machine.execSetdir d r s
  | .setline b => Sys2Proof.Machine.execSetline b s
  | .txcarrier b => Sys2Proof.Machine.execTxcarrier b s
  | .rxcarrier b => Sys2Proof.Machine.execRxcarrier b s
  | .reservedA low => Sys2Proof.Machine.execReservedA low s
  | .reservedB low => Sys2Proof.Machine.execReservedB low s
  | .reservedC low => Sys2Proof.Machine.execReservedC low s
  | .reservedD low => Sys2Proof.Machine.execReservedD low s
  | .reservedE low => Sys2Proof.Machine.execReservedE low s
  | .reservedF low => Sys2Proof.Machine.execReservedF low s
  | .tick adc => Sys2Proof.Machine.execTick adc s
  | .txstep => Sys2Proof.Machine.execTxstep s
  | .txstepWait => Sys2Proof.Machine.execTxstepWait s
  | .txstepPreamble => Sys2Proof.Machine.execTxstepPreamble s
  | .txstepStartBit => Sys2Proof.Machine.execTxstepStartBit s
  | .txstepDataBit => Sys2Proof.Machine.execTxstepDataBit s
  | .txstepStopBit => Sys2Proof.Machine.execTxstepStopBit s
  | .txstepTrail => Sys2Proof.Machine.execTxstepTrail s
  | .wave => Sys2Proof.Machine.execWave s
  | .demod adc => Sys2Proof.Machine.execDemod adc s
  | .rxstep sym => Sys2Proof.Machine.execRxstep sym s
  | .rxstepCarrier sym => Sys2Proof.Machine.execRxstepCarrier sym s
  | .rxstepWait => Sys2Proof.Machine.execRxstepWait s
  | .rxstepPreamble sym => Sys2Proof.Machine.execRxstepPreamble sym s
  | .rxstepStartBit sym => Sys2Proof.Machine.execRxstepStartBit sym s
  | .rxstepDataBit sym => Sys2Proof.Machine.execRxstepDataBit sym s
  | .rxstepStopBit sym => Sys2Proof.Machine.execRxstepStopBit sym s

end Sys2Proof.Machine
end

