-- ==== Sys2Proof/WellFormed.lean ====
section
/-! DEFINITION. What is well-formed: an operation that a port can carry, and a configuration (`00_scope.md` R1). -/

namespace Sys2Proof

/-- The operation arrives on a port (`30_encoding.md` R55). The sub-operations of TICK "are not decoded from any
port" (log entry 6, DESIGN CHOICE). Every operand has exactly the width of its field, so there is nothing else to
check. -/
def Instr.wf : Instr → Bool
  | .nop => true
  | .pushtx _ => true
  | .poprx => true
  | .status => true
  | .txlen => true
  | .rxlen => true
  | .setdir _ _ => true
  | .setline _ => true
  | .txcarrier _ => true
  | .rxcarrier _ => true
  | .reservedA _ => true
  | .reservedB _ => true
  | .reservedC _ => true
  | .reservedD _ => true
  | .reservedE _ => true
  | .reservedF _ => true
  | .tick _ => true
  | .txstep => false
  | .txstepWait => false
  | .txstepPreamble => false
  | .txstepStartBit => false
  | .txstepDataBit => false
  | .txstepStopBit => false
  | .txstepTrail => false
  | .wave => false
  | .demod _ => false
  | .rxstep _ => false
  | .rxstepCarrier _ => false
  | .rxstepWait => false
  | .rxstepPreamble _ => false
  | .rxstepStartBit _ => false
  | .rxstepDataBit _ => false
  | .rxstepStopBit _ => false

/-- A tone pair is well-formed at a sample rate (R1): its fields are in the ranges of `00_scope.md` section 5.2,
each step is `StepOf` of its frequency, and both steps are below half the sample rate's step. The range table has
no lower bound for a frequency, so 0 is allowed (log entry 15, DEDUCED). -/
def TonePair.wf (rate : Nat) (t : TonePair) : Bool :=
  decide (t.spaceFreq < 2 ^ 16) && decide (t.markFreq < 2 ^ 16) &&
  t.spaceStep.toNat == stepOf t.spaceFreq rate && t.markStep.toNat == stepOf t.markFreq rate &&
  decide (t.spaceStep.toNat < 2 ^ 15) && decide (t.markStep.toNat < 2 ^ 15) &&
  decide (1 ≤ t.qlen) && decide (t.qlen ≤ delayMax)

/-- A configuration is well-formed (R1): every field is in the range of `00_scope.md` section 5.2, a bit period is
8 to 65535 samples, the carrier-detect threshold is at least 1, and both tone pairs are well-formed. -/
def Cfg.wf (c : Cfg) : Bool :=
  decide (1 ≤ c.sampleRate) && decide (c.sampleRate < 2 ^ 16) &&
  decide (1 ≤ c.baud) && decide (c.baud < 2 ^ 16) &&
  decide (5 ≤ c.dataBits) && decide (c.dataBits ≤ 8) &&
  decide (c.carrierBits ≤ 255) && decide (c.trailBits ≤ 254) &&
  decide (1 ≤ c.cdTicks) && decide (c.cdTicks ≤ 65535) &&
  decide (1 ≤ c.fifoLog2) && decide (c.fifoLog2 ≤ 14) &&
  decide (8 ≤ c.bitLen) && decide (c.bitLen ≤ 65535) && decide (1 ≤ c.cdThresh) &&
  c.tone0.wf c.sampleRate && c.tone1.wf c.sampleRate

end Sys2Proof
end

