-- ==== Sys2Proof/Decode.lean ====
section
/-! DEFINITION. Decoding the two ports' words and encoding operations back (`30_encoding.md` R51 to R57). -/

namespace Sys2Proof

/-- What one port carries for one operation: the 8-bit operand of the tick port (R51), or one 16-bit word of the
command port (R52). -/
inductive PortWord where
  | tick (adc : Byte)
  | command (w : Word)
  deriving DecidableEq, Repr

/-- What a port word means: an operation, or, rejected by name, a command word that matches no row at all. The
machine answers the latter with ERR (`46_tick_and_control.md` R169). -/
inductive Decoded where
  | op (i : Instr)
  | reserved (w : Word)
  deriving DecidableEq, Repr

/-- One row of the opcode map (R55): a word `w` selects the row when `(w & mask) = pattern`. -/
structure OpRow where
  pattern : Word
  mask : Word
  operation : Word → Instr

/-- Bit `i` of a command word (R54: one-bit operands are single bits of `imm8`). -/
def bitOf (w : Word) (i : Nat) : Bool := w.getLsbD i

/-- `imm8 = cmd[7:0]` (R52). -/
def imm8Of (w : Word) : Byte := w.extractLsb' 0 8

/-- `cmd[11:0]`, the bits a reserved opcode leaves unassigned (R55). -/
def lowOf (w : Word) : BitVec 12 := w.extractLsb' 0 12

/-- The direction coded by one bit (R58). -/
def directionOf : Bool → Direction
  | false => .originating
  | true => .answering

/-- The line mode coded by one bit (R58). -/
def lineModeOf : Bool → LineMode
  | false => .command
  | true => .data

/-- The opcode map of R55, in the order of its rows, with the six reserved opcodes. -/
def opRows : List OpRow := [
  { pattern := 0x0000, mask := 0xFFFF, operation := fun _ => .nop },
  { pattern := 0x1000, mask := 0xFF00, operation := fun w => .pushtx (imm8Of w) },
  { pattern := 0x2000, mask := 0xFFFF, operation := fun _ => .poprx },
  { pattern := 0x3000, mask := 0xFFFF, operation := fun _ => .status },
  { pattern := 0x4000, mask := 0xFFFF, operation := fun _ => .txlen },
  { pattern := 0x5000, mask := 0xFFFF, operation := fun _ => .rxlen },
  { pattern := 0x6000, mask := 0xFFFC, operation := fun w => .setdir (directionOf (bitOf w 0)) (bitOf w 1) },
  { pattern := 0x7000, mask := 0xFFFE, operation := fun w => .setline (lineModeOf (bitOf w 0)) },
  { pattern := 0x8000, mask := 0xFFFE, operation := fun w => .txcarrier (bitOf w 0) },
  { pattern := 0x9000, mask := 0xFFFE, operation := fun w => .rxcarrier (bitOf w 0) },
  { pattern := 0xA000, mask := 0xF000, operation := fun w => .reservedA (lowOf w) },
  { pattern := 0xB000, mask := 0xF000, operation := fun w => .reservedB (lowOf w) },
  { pattern := 0xC000, mask := 0xF000, operation := fun w => .reservedC (lowOf w) },
  { pattern := 0xD000, mask := 0xF000, operation := fun w => .reservedD (lowOf w) },
  { pattern := 0xE000, mask := 0xF000, operation := fun w => .reservedE (lowOf w) },
  { pattern := 0xF000, mask := 0xF000, operation := fun w => .reservedF (lowOf w) }]

/-- The word selects the row (R55). -/
def rowSelects (r : OpRow) (w : Word) : Bool := w &&& r.mask == r.pattern

/-- Decode a command word (R55, R56): the first row it selects; the rows are disjoint, so it is the only one. -/
def decodeCommand (w : Word) : Decoded :=
  match opRows.find? (fun r => rowSelects r w) with
  | some r => .op (r.operation w)
  | none => .reserved w

/-- Decode what a port carries. Every 8-bit value is a legal TICK operand (R56). -/
def decode : PortWord → Decoded
  | .tick adc => .op (.tick adc)
  | .command w => decodeCommand w

/-- One bit of a command word, at bit 0. -/
def codeOfBool (b : Bool) : Word := if b then 1 else 0

/-- The code of a direction (R58). -/
def codeOfDirection : Direction → Word
  | .originating => 0
  | .answering => 1

/-- The code of a line mode (R58). -/
def codeOfLineMode : LineMode → Word
  | .command => 0
  | .data => 1

/-- The word of an operation on its port (R59's column "command word"); none for a sub-operation of TICK, which no
port carries. -/
def encode : Instr → Option PortWord
  | .nop => some (.command 0x0000)
  | .pushtx v => some (.command (0x1000 ||| v.setWidth 16))
  | .poprx => some (.command 0x2000)
  | .status => some (.command 0x3000)
  | .txlen => some (.command 0x4000)
  | .rxlen => some (.command 0x5000)
  | .setdir d r => some (.command (0x6000 ||| (codeOfBool r <<< 1) ||| codeOfDirection d))
  | .setline b => some (.command (0x7000 ||| codeOfLineMode b))
  | .txcarrier b => some (.command (0x8000 ||| codeOfBool b))
  | .rxcarrier b => some (.command (0x9000 ||| codeOfBool b))
  | .reservedA low => some (.command (0xA000 ||| low.setWidth 16))
  | .reservedB low => some (.command (0xB000 ||| low.setWidth 16))
  | .reservedC low => some (.command (0xC000 ||| low.setWidth 16))
  | .reservedD low => some (.command (0xD000 ||| low.setWidth 16))
  | .reservedE low => some (.command (0xE000 ||| low.setWidth 16))
  | .reservedF low => some (.command (0xF000 ||| low.setWidth 16))
  | .tick adc => some (.tick adc)
  | .txstep => none
  | .txstepWait => none
  | .txstepPreamble => none
  | .txstepStartBit => none
  | .txstepDataBit => none
  | .txstepStopBit => none
  | .txstepTrail => none
  | .wave => none
  | .demod _ => none
  | .rxstep _ => none
  | .rxstepCarrier _ => none
  | .rxstepWait => none
  | .rxstepPreamble _ => none
  | .rxstepStartBit _ => none
  | .rxstepDataBit _ => none
  | .rxstepStopBit _ => none

/-- The port word that spec/opcode_table.json's numbering stands for: a row of 16 bits is a command word, a row of
8 bits is the operand of TICK (R51, R52); a row with no bits is a sub-operation, which no port carries (log entry
14, DEDUCED). -/
def portWordOfTable (nbits w : Nat) : Option PortWord :=
  if nbits = 16 then some (.command (BitVec.ofNat 16 w))
  else if nbits = 8 then some (.tick (BitVec.ofNat 8 w))
  else none

/-- The instruction that the decoder reads from a row's word. -/
def decodeTableWord (nbits w : Nat) : Option Instr :=
  match portWordOfTable nbits w with
  | none => none
  | some p =>
    match decode p with
    | .op i => some i
    | .reserved _ => none

end Sys2Proof
end

