-- ==== Sys2Proof/Machine/Ports.lean ====
section
/-! DEFINITION. Taking the next event from the input ports (`30_encoding.md` R50), with the order of simultaneous
events (`60_exceptions.md` R188) and the reset pin (`46_tick_and_control.md` R170). -/

namespace Sys2Proof.Machine

/-- What the input ports present next, with the state whose later inputs remain. -/
inductive Fetched where
  /-- No operation and no reset: the state stays (`60_exceptions.md` R196: stopping the strobe freezes it). -/
  | quiet (s : State)
  /-- The reset pin, with the configuration presented. -/
  | reset (c : Cfg) (s : State)
  /-- One operation's word on its port. -/
  | op (w : PortWord) (s : State)
  deriving DecidableEq, Repr

/-- The next event. `rst` overrides both ports: a strobe or a command presented with it does not execute (R170). A
strobe and a command together are ordered TICK first, and the command stays to come (R188; log entry 3, DESIGN
CHOICE). -/
def fetch (s : State) : Fetched :=
  match s.inputs with
  | [] => .quiet s
  | p :: rest =>
    match p.rst, p.adc, p.cmd with
    | some c, _, _ => .reset c (s.setInputs rest)
    | none, some a, none => .op (.tick a) (s.setInputs rest)
    | none, some a, some w => .op (.tick a) (s.setInputs ({ cmd := some w } :: rest))
    | none, none, some w => .op (.command w) (s.setInputs rest)
    | none, none, none => .quiet (s.setInputs rest)

/-- The state when `rst` is released with `c` presented; what the environment presents later is not the block's
state, so it stays (R200, R170). -/
def releaseReset (c : Cfg) (s : State) : State := (State.resetWith c).setInputs s.inputs

/-- The port input that carries a word. -/
def inputOf : PortWord → PortInput
  | .tick a => { adc := some a }
  | .command w => { cmd := some w }

/-- Present a word at its port before everything else that is to come. -/
def presentWord (w : PortWord) (s : State) : State := s.setInputs (inputOf w :: s.inputs)

end Sys2Proof.Machine
end

