-- ==== Sys2Proof/Machine/Step.lean ====
section
/-! DEFINITION. One step: the next event at the ports, as one atomic transition (`00_scope.md` R5). -/

namespace Sys2Proof.Machine

/-- The operation of a port word; a word that selects no row answers ERR (`46_tick_and_control.md` R169). -/
def runWord (w : PortWord) (s : State) : Host.Outcome State Fault Refusal :=
  match decode w with
  | .op i => exec i s
  | .reserved _ => .next (reservedCommand s)

/-- One step. The rules are stated for well-formed configurations only; any other is refused (`00_scope.md` R1; log
entry 8, DESIGN CHOICE). -/
def step (s : State) : Host.Outcome State Fault Refusal :=
  match fetch s with
  | .quiet s1 => .next s1
  | .reset c s1 => if c.wf then .next (releaseReset c s1) else .refused .cfgIllFormed
  | .op w s1 => if s1.cfg.wf then runWord w s1 else .refused .cfgIllFormed

/-- `s` with the instruction of a table row presented at its port as the next event; unchanged for a row that has
no word (log entry 2, DESIGN CHOICE). -/
def State.withFetchWord (s : State) (nbits w : Nat) : State :=
  match portWordOfTable nbits w with
  | some p => presentWord p s
  | none => s

end Sys2Proof.Machine
end

