-- ==== Sys2Proof/Safety.lean ====
section
/-! DEFINITION. The terms that claims use: sequences of operations, the invariant of `10_state.md` R22, and what a
safe run is. -/

namespace Sys2Proof.Machine

open Sys2Proof

/-- Operations executed one after another (`30_encoding.md` R59), stopping at the first that does not answer a next
state. -/
def execAll : List Instr → State → Host.Outcome State Fault Refusal
  | [], s => .next s
  | i :: rest, s =>
    match exec i s with
    | .next s1 => execAll rest s1
    | .fault f => .fault f
    | .refused r => .refused r

/-- The operation is a TICK. -/
def isTick (i : Instr) : Bool :=
  match i with
  | .tick _ => true
  | _ => false

/-- The TICKs among a sequence of operations. -/
def tickCount (is : List Instr) : Nat := (is.filter isTick).length

/-- The state rule that `tx.state` selects at a bit boundary (`43_txframer.md` R111). -/
def txRuleOf : TxState → Instr
  | .wait => .txstepWait
  | .preamble => .txstepPreamble
  | .startBit => .txstepStartBit
  | .dataBit => .txstepDataBit
  | .stopBit => .txstepStopBit
  | .trail => .txstepTrail

/-- The state rule that `rx.state` selects on a tick (`45_rxframer.md` R140). -/
def rxRuleOf (sym : Bool) : RxState → Instr
  | .carrier => .rxstepCarrier sym
  | .wait => .rxstepWait
  | .preamble => .rxstepPreamble sym
  | .startBit => .rxstepStartBit sym
  | .dataBit => .rxstepDataBit sym
  | .stopBit => .rxstepStopBit sym

/-- A command word is reserved, told from its three fields (`30_encoding.md` R56): `op` in 0xA..0xF, or `zero` not
0, or a must-be-zero bit of `imm8` set for the format of `op` (H0: all eight, H1: bits 7:1, H2: bits 7:2). -/
abbrev ReservedByFields (w : Word) : Prop :=
  let op := w.toNat / 4096
  let mbz := w.toNat / 256 % 16
  let imm8 := w.toNat % 256
  10 ≤ op ∨ mbz ≠ 0 ∨ ((op = 0 ∨ op = 2 ∨ op = 3 ∨ op = 4 ∨ op = 5) ∧ imm8 ≠ 0) ∨
    ((op = 7 ∨ op = 8 ∨ op = 9) ∧ 2 ≤ imm8) ∨ (op = 6 ∧ 4 ≤ imm8)

/-- The symbols of one frame of byte `b` on the line, `N` ticks a bit (`43_txframer.md` R116): start bit, data bits
least significant first, stop bit. -/
def frameSymbols (c : Cfg) (b : Byte) : List Bool :=
  List.replicate c.bitLen false ++
    (List.range c.dataBits).flatMap (fun k => List.replicate c.bitLen (b.getLsbD k)) ++
    List.replicate c.bitLen true

/-- `len(Q) = (Q.wr − Q.rd) mod (2·CAP)` (`41_bytefifo.md` R81), over the integers as the rule writes it. -/
abbrev Fifo.held (cap : Nat) (q : Fifo) : Int := ((q.wr : Int) - q.rd) % (2 * (cap : Int))

/-- A FIFO's part of R22 (f), with the canonical form of its buffer and the width of its indices (R80). -/
abbrev Fifo.Inv (cap : Nat) (q : Fifo) : Prop :=
  Memory.wf q.buf = true ∧ (∀ c ∈ q.buf, c.1 < cap) ∧ q.wr < 2 * cap ∧ q.rd < 2 * cap ∧ q.len cap ≤ cap

/-- The transmit half of R22: (b) the tick counter, (c) the bit counter, in the form that every step keeps. -/
abbrev TxInv (s : State) : Prop :=
  s.tx.clk.toNat < s.cfg.bitLen ∧
  s.tx.bits.toNat ≤ max s.cfg.carrierBits (max s.cfg.dataBits (s.cfg.trailBits + 1)) ∧
  (s.tx.state = .preamble → s.tx.bits.toNat = 0 ∨ s.tx.bits.toNat < s.cfg.carrierBits) ∧
  (s.tx.state = .dataBit → s.tx.bits.toNat ≤ s.cfg.dataBits) ∧
  (s.tx.state = .trail → s.tx.bits.toNat ≤ s.cfg.trailBits)

/-- The synthesizer's part of R22: (a) NONE comes with a cleared phase and the bias on the DAC; the DAC never
carries 0 (`40_wavetable.md` R73). -/
abbrev WaveInv (s : State) : Prop :=
  (s.tx.sym = .none → s.phase = 0 ∧ s.dac = bias) ∧ s.dac ≠ 0

/-- The demodulator's part of R22: (d) the delay line's length, (e) the ranges of the taps. -/
abbrev DemodInv (s : State) : Prop :=
  s.delay.toList.length = (rxPair s).qlen ∧
  (-16256 ≤ s.iir.x0.toInt ∧ s.iir.x0.toInt ≤ 16384) ∧ (-16256 ≤ s.iir.x1.toInt ∧ s.iir.x1.toInt ≤ 16384) ∧
  (-65536 ≤ s.iir.y0.toInt ∧ s.iir.y0.toInt ≤ 65536) ∧ (-65536 ≤ s.iir.y1.toInt ∧ s.iir.y1.toInt ≤ 65536)

/-- The receive framer's part of R22: (g) the counters, in the form that every step keeps, and (i) CARRIER exactly
when no carrier is declared. -/
abbrev RxInv (s : State) : Prop :=
  s.rx.bitSum.toNat ≤ s.cfg.bitLen ∧ s.rx.bitClock.toNat ≤ s.cfg.bitLen ∧
  s.rx.bits.toNat ≤ s.cfg.dataBits ∧ s.rx.cdCount.toNat ≤ s.cfg.cdThresh ∧
  (s.rx.state = .carrier → s.rx.cdCount.toNat < s.cfg.cdThresh) ∧
  (s.rx.state = .preamble ∨ s.rx.state = .startBit ∨ s.rx.state = .dataBit ∨ s.rx.state = .stopBit →
    s.rx.bitSum.toNat ≤ s.rx.bitClock.toNat) ∧
  (s.rx.state = .preamble → s.rx.bitClock.toNat < s.cfg.halfBit) ∧
  (s.rx.state = .startBit ∨ s.rx.state = .dataBit ∨ s.rx.state = .stopBit →
    s.rx.bitClock.toNat < s.cfg.bitLen) ∧
  (s.rx.state = .dataBit → s.rx.bits.toNat < s.cfg.dataBits) ∧
  (s.rx.state = .carrier ↔ s.rx.carrier = false)

/-- The invariant of the block (R22), with the configuration well-formed (R1) and the response port holding either
ERR alone or a word with ERR clear (`30_encoding.md` R53). -/
abbrev Inv (s : State) : Prop :=
  s.cfg.wf = true ∧ TxInv s ∧ WaveInv s ∧ DemodInv s ∧ RxInv s ∧
  s.txf.Inv s.cfg.cap ∧ s.rxf.Inv s.cfg.cap ∧ (s.rsp = 0x8000 ∨ s.rsp.toNat < 0x8000)

/-- Every configuration that the environment will present at a reset is well-formed (R201). -/
abbrev InputsWf (s : State) : Prop := ∀ p ∈ s.inputs, ∀ c, p.rst = some c → c.wf = true

/-- A safe run: `k` steps answer a next state each, with the invariant throughout. -/
def SafeRun : Nat → State → Prop
  | 0, s => Inv s
  | k + 1, s => Inv s ∧ ∃ t, step s = .next t ∧ SafeRun k t

end Sys2Proof.Machine
end

