-- ==== Sys2Proof/Certificates/Slice0/Obligations.lean ====
section
/-! DEFINITION. The statements for the provers. -/

open Sys2Proof Sys2Proof.Machine

/-! ## Encoding -/

/-- Decoding and encoding agree, both ways, for every operation of a port and every word (R52, R55, R59). -/
def Obligations.DecodeAndEncodeAgree : Prop :=
  (∀ i : Instr, i.wf = true → ∃ p, encode i = some p ∧ decode p = .op i) ∧
  (∀ (p : PortWord) (i : Instr), decode p = .op i → encode i = some p ∧ i.wf = true)

/-- R53, R56, R169, R185: a command word is reserved exactly when its fields say so; it then answers ERR and changes
nothing, and any other word answers with ERR clear. Every 8-bit value is a legal TICK operand. The list from which the
word is taken is the model's own field (log entry 2). -/
def Obligations.ReservedWordsAnswerErrAndNothingElse : Prop :=
  (∀ a : Byte, decode (.tick a) = .op (.tick a)) ∧
  ∀ (s : State) (w : Word) (rest : List PortInput),
    s.cfg.wf = true → s.inputs = { cmd := some w } :: rest →
    (ReservedByFields w → step s = .next { s with inputs := rest, rsp := 0x8000 }) ∧
    (¬ ReservedByFields w →
      ∃ t, step s = .next t ∧ t.rsp.getLsbD 15 = false ∧ ∃ i, i.wf = true ∧ decode (.command w) = .op i)

/-- Words of `95_test_vectors.md` section 2 decode to the operations its table names. -/
def Obligations.VectorWordsDecode : Prop :=
  decode (.command 0x0000) = .op .nop ∧ decode (.command 0x1041) = .op (.pushtx 0x41) ∧
  decode (.command 0x2000) = .op .poprx ∧ decode (.command 0x3000) = .op .status ∧
  decode (.command 0x4000) = .op .txlen ∧ decode (.command 0x5000) = .op .rxlen ∧
  decode (.command 0x6002) = .op (.setdir .originating true) ∧
  decode (.command 0x6001) = .op (.setdir .answering false) ∧
  decode (.command 0x7001) = .op (.setline .data) ∧ decode (.command 0x8001) = .op (.txcarrier true) ∧
  decode (.command 0x9000) = .op (.rxcarrier false) ∧ decode (.command 0xB123) = .op (.reservedB 0x123) ∧
  decode (.command 0x1141) = .reserved 0x1141 ∧ decode (.command 0x6004) = .reserved 0x6004 ∧
  decode (.command 0x7002) = .reserved 0x7002 ∧ decode (.command 0x40FF) = .reserved 0x40FF

/-! ## Steps, ports, reset -/

/-- A step runs the decoded operation, and nothing around it but taking the word from its port. The list of inputs is
the model's own field (log entry 2). -/
def Obligations.StepRunsTheDecodedOperation : Prop :=
  ∀ (s : State) (w : PortWord) (i : Instr) (rest : List PortInput),
    s.cfg.wf = true → decode w = .op i →
    i.wf = true ∧ (s.inputs = inputOf w :: rest → step s = exec i { s with inputs := rest }) ∧
    step (presentWord w s) = exec i s

/-- R188: a strobe and a command at the same instant are ordered TICK first; the command is the very next
operation. The shape of an instant is the model's choice (log entries 2 and 3). -/
def Obligations.StrobeWithCommandIsTickFirst : Prop :=
  ∀ (s : State) (a : Byte) (w : Word) (rest : List PortInput),
    s.cfg.wf = true → s.inputs = { adc := some a, cmd := some w } :: rest →
    ∃ t, exec (.tick a) { s with inputs := rest } = .next t ∧
      step s = .next { t with inputs := { cmd := some w } :: rest } ∧
      ∀ i, decode (.command w) = .op i →
        step { t with inputs := { cmd := some w } :: rest } = exec i t

/-- R170, R200: `rst` overrides whatever the two ports carry, and on release the state is the reset state. That `Cfg`
is written there is the model's choice (log entry 1), and so are that the later inputs stay (log entry 2) and that a
reset event is assertion and release in one (log entry 3). -/
def Obligations.ResetPinGivesTheResetState : Prop :=
  ∀ (s : State) (c : Cfg) (a : Option Byte) (w : Option Word) (rest : List PortInput),
    c.wf = true → s.inputs = { rst := some c, adc := a, cmd := w } :: rest →
    ∃ t, step s = .next t ∧ t.inputs = rest ∧ t.cfg = c ∧
      t.mode = .command ∧ t.dir = .originating ∧ t.rev = false ∧
      t.tx.carrier = false ∧ t.tx.active = false ∧ t.rx.carrier = false ∧
      t.tx.state = .wait ∧ t.tx.sym = .none ∧
      t.phase = 0 ∧ t.tx.byte = 0 ∧ t.tx.bits = 0 ∧ t.tx.clk = 0 ∧
      t.rx.state = .carrier ∧ t.rx.bitSum = 0 ∧ t.rx.bitClock = 0 ∧ t.rx.sr = 0 ∧ t.rx.byte = 0 ∧
      t.rx.bits = 0 ∧ t.rx.cdCount = 0 ∧
      t.iir.x0 = 0 ∧ t.iir.x1 = 0 ∧ t.iir.y0 = 0 ∧ t.iir.y1 = 0 ∧
      t.delay.toList = List.replicate c.tone1.qlen 128 ∧
      t.txf.wr = 0 ∧ t.txf.rd = 0 ∧ t.rxf.wr = 0 ∧ t.rxf.rd = 0 ∧
      t.dac = 128 ∧ t.rsp = 0

/-- R196: with nothing at the ports the state stays as it is. That an empty list of inputs means quiet ports is the
model's choice (log entry 2). -/
def Obligations.QuietPortsFreezeTheState : Prop :=
  (∀ s : State, s.inputs = [] → step s = .next s) ∧
  (∀ (s : State) (rest : List PortInput), s.inputs = {} :: rest → step s = .next { s with inputs := rest })

/-- U6: an operation, or a release of reset, under a configuration that is not well-formed is refused. That `step`
makes the check is the model's choice (log entry 8). -/
def Obligations.IllFormedConfigurationsAreRefused : Prop :=
  (∀ (s : State) (w : PortWord) (rest : List PortInput),
    s.cfg.wf = false → s.inputs = inputOf w :: rest → step s = .refused .cfgIllFormed) ∧
  (∀ (s : State) (c : Cfg) (rest : List PortInput),
    c.wf = false → s.inputs = { rst := some c } :: rest → step s = .refused .cfgIllFormed)

/-! ## The invariant -/

/-- The reset state meets the invariant, under every well-formed configuration. -/
def Obligations.ResetMeetsTheInvariant : Prop :=
  Inv State.reset ∧ ∀ c : Cfg, c.wf = true → Inv (State.resetWith c)

/-- R22: every step keeps the invariant, whatever the ports carry. -/
def Obligations.EveryStepKeepsTheInvariant : Prop :=
  ∀ s t : State, Inv s → step s = .next t → Inv t

/-- R180, R186: from a state that meets the invariant no run stops, for as long as every reset presents a
well-formed configuration. -/
def Obligations.NoRunEverStops : Prop :=
  ∀ (k : Nat) (s : State), Inv s → InputsWf s → SafeRun k s

/-! ## The FIFO -/

/-- R80, R84, R85: the ring of two indices behaves as a queue of at most `CAP` bytes. -/
def Obligations.RingRefinesQueue : Prop :=
  ∀ (cap : Nat) (q : Fifo) (b : Byte), q.Inv cap → 0 < cap →
    (q.items cap).length = q.len cap ∧ ((q.len cap : Nat) : Int) = q.held cap ∧
    (q.empty = true ↔ q.items cap = []) ∧ (q.full cap = true ↔ (q.items cap).length = cap) ∧
    (q.full cap = true → q.enqueue cap b = (false, q)) ∧
    (q.full cap = false →
      ∃ r, q.enqueue cap b = (true, r) ∧ r.Inv cap ∧ r.items cap = q.items cap ++ [b]) ∧
    (q.items cap = [] → q.dequeue cap = none) ∧
    (∀ (x : Byte) (xs : List Byte), q.items cap = x :: xs →
      ∃ r, q.dequeue cap = some (x, r) ∧ r.Inv cap ∧ r.items cap = xs)

/-- R87: `CAP` bytes fit, the next is refused, and they come out in order. -/
def Obligations.FifoFillsAndDrainsInOrder : Prop :=
  ∀ (cap : Nat) (q : Fifo) (bs : List Byte) (extra : Byte),
    q.Inv cap → 0 < cap → q.empty = true → bs.length = cap →
    ∃ full drained, Fifo.enqueueAll cap q bs = (List.replicate cap true, full) ∧
      full.enqueue cap extra = (false, full) ∧ full.full cap = true ∧
      Fifo.dequeueMany cap cap full = (bs, drained) ∧ drained.empty = true

/-! ## Host commands -/

/-- R162: NOP. -/
def Obligations.NopOnlyAnswersZero : Prop :=
  decode (.command 0x0000) = .op .nop ∧ ∀ s : State, exec .nop s = .next { s with rsp := 0 }

/-- R84, R91: PUSHTX stores the byte at `wr mod CAP` and advances `wr`, or drops it when the FIFO is full. -/
def Obligations.PushtxStoresOrDrops : Prop :=
  ∀ (s : State) (v : Byte),
    decode (.command (0x1000 ||| v.setWidth 16)) = .op (.pushtx v) ∧
    (s.txf.held s.cfg.cap = s.cfg.cap → exec (.pushtx v) s = .next { s with rsp := 0 }) ∧
    (s.txf.held s.cfg.cap ≠ s.cfg.cap → Memory.wf s.txf.buf = true →
      ∃ t, exec (.pushtx v) s = .next t ∧ t = { s with txf := t.txf, rsp := 1 } ∧
        t.txf.rd = s.txf.rd ∧ t.txf.wr = (s.txf.wr + 1) % (2 * s.cfg.cap) ∧
        Memory.read t.txf.buf (s.txf.wr % s.cfg.cap) = v ∧
        ∀ a, a ≠ s.txf.wr % s.cfg.cap → Memory.read t.txf.buf a = Memory.read s.txf.buf a)

/-- R85, R92: POPRX takes the byte at `rd mod CAP` and advances `rd`, or answers 0 on an empty FIFO. -/
def Obligations.PoprxTakesTheOldestByte : Prop :=
  decode (.command 0x2000) = .op .poprx ∧
  ∀ s : State,
    (s.rxf.wr = s.rxf.rd → exec .poprx s = .next { s with rsp := 0 }) ∧
    (s.rxf.wr ≠ s.rxf.rd →
      exec .poprx s = .next { s with
        rxf := { s.rxf with rd := (s.rxf.rd + 1) % (2 * s.cfg.cap) }
        rsp := BitVec.ofNat 16 (0x100 + (Memory.read s.rxf.buf (s.rxf.rd % s.cfg.cap)).toNat) })

/-- R81, R93, R94: TXLEN and RXLEN answer the occupancy and change nothing else. -/
def Obligations.LengthQueriesAnswerOccupancy : Prop :=
  decode (.command 0x4000) = .op .txlen ∧ decode (.command 0x5000) = .op .rxlen ∧
  ∀ s : State,
    exec .txlen s = .next { s with rsp := BitVec.ofInt 16 (s.txf.held s.cfg.cap) } ∧
    exec .rxlen s = .next { s with rsp := BitVec.ofInt 16 (s.rxf.held s.cfg.cap) }

/-- R15, R88, R163: STATUS, bit by bit, with no other change. -/
def Obligations.StatusReportsEveryBit : Prop :=
  decode (.command 0x3000) = .op .status ∧
  ∀ s : State, ∃ t, exec .status s = .next t ∧ t = { s with rsp := t.rsp } ∧
    t.rsp.getLsbD 0 = decide (s.mode = .data) ∧ t.rsp.getLsbD 1 = decide (s.dir = .answering) ∧
    t.rsp.getLsbD 2 = s.rev ∧ t.rsp.getLsbD 3 = s.tx.carrier ∧ t.rsp.getLsbD 4 = s.tx.active ∧
    t.rsp.getLsbD 5 = s.rx.carrier ∧
    t.rsp.getLsbD 6 = decide (s.txf.wr = s.txf.rd) ∧
    t.rsp.getLsbD 7 = decide (s.txf.held s.cfg.cap = s.cfg.cap) ∧
    t.rsp.getLsbD 8 = decide (s.rxf.wr = s.rxf.rd) ∧
    t.rsp.getLsbD 9 = decide (s.rxf.held s.cfg.cap = s.cfg.cap) ∧
    t.rsp.getLsbD 10 = decide ((s.cfg.cap : Int) / 4 ≤ s.txf.held s.cfg.cap) ∧
    t.rsp.getLsbD 11 = decide ((s.cfg.cap : Int) / 2 ≤ s.txf.held s.cfg.cap) ∧
    t.rsp.getLsbD 12 = decide ((s.cfg.cap : Int) - (s.cfg.cap : Int) / 4 ≤ s.txf.held s.cfg.cap) ∧
    t.rsp.getLsbD 13 = false ∧ t.rsp.getLsbD 14 = false ∧ t.rsp.getLsbD 15 = false

/-- R164: SETLINE writes `mode` and nothing else. -/
def Obligations.SetlineWritesModeOnly : Prop :=
  decode (.command 0x7000) = .op (.setline .command) ∧ decode (.command 0x7001) = .op (.setline .data) ∧
  ∀ (s : State) (b : LineMode), exec (.setline b) s = .next { s with mode := b, rsp := 0 }

/-- R165, R167: SETDIR writes both flags and re-initialises the receive half for the new pair; the transmit half
and both FIFOs stay. -/
def Obligations.SetdirRestartsTheReceiver : Prop :=
  decode (.command 0x6000) = .op (.setdir .originating false) ∧
  decode (.command 0x6001) = .op (.setdir .answering false) ∧
  decode (.command 0x6002) = .op (.setdir .originating true) ∧
  decode (.command 0x6003) = .op (.setdir .answering true) ∧
  ∀ (s : State) (d : Direction) (r : Bool), s.cfg.wf = true →
    ∃ t, exec (.setdir d r) s = .next t ∧
      t = { s with
        dir := d
        rev := r
        rx := { state := .carrier, carrier := false, bitSum := 0, bitClock := 0, sr := 0, byte := 0, bits := 0,
                cdCount := 0 }
        iir := { x0 := 0, x1 := 0, y0 := 0, y1 := 0 }
        delay := t.delay
        rsp := 0 } ∧
      t.delay.toList = List.replicate
        (if (d = .answering ↔ r = true) then s.cfg.tone1.qlen else s.cfg.tone0.qlen) 128

/-- R166: TXCARRIER writes the persistent-carrier flag and nothing else. -/
def Obligations.TxcarrierWritesTheFlagOnly : Prop :=
  decode (.command 0x8000) = .op (.txcarrier false) ∧ decode (.command 0x8001) = .op (.txcarrier true) ∧
  ∀ (s : State) (b : Bool), exec (.txcarrier b) s = .next { s with tx := { s.tx with carrier := b }, rsp := 0 }

/-- R167, R168: RXCARRIER clears what is in flight and forces the framer to WAIT or back to CARRIER; OFF also clears
the filter; the delay line stays. -/
def Obligations.RxcarrierForcesTheFramer : Prop :=
  decode (.command 0x9000) = .op (.rxcarrier false) ∧ decode (.command 0x9001) = .op (.rxcarrier true) ∧
  ∀ s : State,
    exec (.rxcarrier true) s = .next { s with
      rx := { state := .wait, carrier := true, bitSum := 0, bitClock := 0, sr := 0, byte := 0, bits := 0,
              cdCount := 0 }
      rsp := 0 } ∧
    exec (.rxcarrier false) s = .next { s with
      rx := { state := .carrier, carrier := false, bitSum := 0, bitClock := 0, sr := 0, byte := 0, bits := 0,
              cdCount := 0 }
      iir := { x0 := 0, x1 := 0, y0 := 0, y1 := 0 }
      rsp := 0 }

/-- R169: each reserved opcode, with any low bits, answers ERR and changes nothing. -/
def Obligations.ReservedOpcodesAnswerErr : Prop :=
  ∀ (s : State) (low : BitVec 12),
    exec (.reservedA low) s = .next { s with rsp := 0x8000 } ∧
    exec (.reservedB low) s = .next { s with rsp := 0x8000 } ∧
    exec (.reservedC low) s = .next { s with rsp := 0x8000 } ∧
    exec (.reservedD low) s = .next { s with rsp := 0x8000 } ∧
    exec (.reservedE low) s = .next { s with rsp := 0x8000 } ∧
    exec (.reservedF low) s = .next { s with rsp := 0x8000 }

/-! ## TICK -/

/-- R160: a TICK is TXSTEP, WAVE, DEMOD and RXSTEP in this order, each on the state the one before left; the symbol
is `(iir.y1 > 0) ^ rxPair.pol` after DEMOD (R130 step 6, R135). -/
def Obligations.TickIsItsFourStepsInOrder : Prop :=
  ∀ (s : State) (a : Byte), ∃ s1 s2 s3 t,
    exec .txstep s = .next s1 ∧ exec .wave s1 = .next s2 ∧ exec (.demod a) s2 = .next s3 ∧
    exec (.rxstep (xor (decide (0 < s3.iir.y1.toInt)) (rxPair s3).pol)) s3 = .next t ∧
    exec (.tick a) s = .next t

/-- R161: the two halves share no written state, so the receive half may as well run first. -/
def Obligations.TickHalvesCommute : Prop :=
  ∀ (s : State) (a : Byte), ∃ s1 s2 s3 t,
    exec (.demod a) s = .next s1 ∧
    exec (.rxstep (xor (decide (0 < s1.iir.y1.toInt)) (rxPair s1).pol)) s1 = .next s2 ∧
    exec .txstep s2 = .next s3 ∧ exec .wave s3 = .next t ∧ exec (.tick a) s = .next t

/-- R161: what a TICK does to one half depends on nothing of the other half, nor (for the transmit half) on the ADC
sample. -/
def Obligations.TickHalvesDoNotInterfere : Prop :=
  ∀ (s u s' u' : State) (a b : Byte), exec (.tick a) s = .next s' → exec (.tick b) u = .next u' →
    s.cfg = u.cfg → s.mode = u.mode → s.dir = u.dir → s.rev = u.rev →
    (s.tx = u.tx → s.phase = u.phase → s.txf = u.txf →
      s'.tx = u'.tx ∧ s'.phase = u'.phase ∧ s'.txf = u'.txf ∧ s'.dac = u'.dac) ∧
    (a = b → s.rx = u.rx → s.iir = u.iir → s.delay = u.delay → s.rxf = u.rxf →
      s'.rx = u'.rx ∧ s'.iir = u'.iir ∧ s'.delay = u'.delay ∧ s'.rxf = u'.rxf)

/-! ## TxFramer -/

/-- R110, R111: TXSTEP runs the rule that `tx.state` selects when `tx.clk` is 0, then steps the tick counter; on any
other tick it only steps the counter. -/
def Obligations.TxstepRunsTheSelectedRuleAtBoundaries : Prop :=
  ∀ s : State, ∃ u,
    (s.tx.clk = 0 → exec (txRuleOf s.tx.state) s = .next u) ∧ (s.tx.clk ≠ 0 → u = s) ∧
    exec .txstep s = .next { u with tx := { u.tx with
      clk := if s.tx.clk.toNat + 1 = s.cfg.sampleRate / s.cfg.baud then 0 else s.tx.clk + 1 } }

/-- R112: TXSTEP.WAIT. -/
def Obligations.TxWaitStartsOrIdles : Prop :=
  ∀ s : State,
    (s.mode = .data ∧ s.txf.wr ≠ s.txf.rd →
      exec .txstepWait s = .next { s with
        txf := { s.txf with rd := (s.txf.rd + 1) % (2 * s.cfg.cap) }
        tx := { s.tx with
          byte := Memory.read s.txf.buf (s.txf.rd % s.cfg.cap), bits := 0, active := true, state := .preamble,
          sym := .mark } }) ∧
    (¬ (s.mode = .data ∧ s.txf.wr ≠ s.txf.rd) → (s.tx.carrier = true ∨ s.tx.active = true) →
      exec .txstepWait s = .next { s with tx := { s.tx with sym := .mark } }) ∧
    (¬ (s.mode = .data ∧ s.txf.wr ≠ s.txf.rd) → s.tx.carrier = false → s.tx.active = false →
      exec .txstepWait s = .next { s with phase := 0, tx := { s.tx with sym := .none } })

/-- R113: TXSTEP.PREAMBLE, where the count fits its register (R119 says it always does). -/
def Obligations.TxPreambleCountsPeriods : Prop :=
  ∀ s : State, s.tx.bits.toNat < 255 → ∃ bits : BitVec 8, bits.toNat = s.tx.bits.toNat + 1 ∧
    ((s.tx.carrier = true ∨ s.cfg.carrierBits ≤ s.tx.bits.toNat + 1) →
      exec .txstepPreamble s = .next { s with
        tx := { s.tx with bits := bits, state := .startBit, sym := .space } }) ∧
    (s.tx.carrier = false → s.tx.bits.toNat + 1 < s.cfg.carrierBits →
      exec .txstepPreamble s = .next { s with tx := { s.tx with bits := bits, sym := .mark } })

/-- R114, R115: TXSTEP.START_BIT and TXSTEP.DATA_BIT put the data bits on the line, least significant first. -/
def Obligations.TxDataBitsGoOutLowestFirst : Prop :=
  ∀ s : State, ∃ byte : Byte, byte.toNat = s.tx.byte.toNat / 2 ∧
    exec .txstepStartBit s = .next { s with
      tx := { s.tx with
        sym := if s.tx.byte.toNat % 2 = 1 then .mark else .space, byte := byte, bits := 1, state := .dataBit } } ∧
    (s.cfg.dataBits ≤ s.tx.bits.toNat →
      exec .txstepDataBit s = .next { s with tx := { s.tx with state := .stopBit, sym := .mark } }) ∧
    (s.tx.bits.toNat < s.cfg.dataBits →
      exec .txstepDataBit s = .next { s with
        tx := { s.tx with
          sym := if s.tx.byte.toNat % 2 = 1 then .mark else .space, byte := byte, bits := s.tx.bits + 1 } })

/-- R117: TXSTEP.STOP_BIT. -/
def Obligations.TxStopBitContinuesOrTrails : Prop :=
  ∀ s : State,
    ((s.cfg.backToBack = true ∧ s.mode = .data ∧ s.txf.wr ≠ s.txf.rd) →
      exec .txstepStopBit s = .next { s with
        txf := { s.txf with rd := (s.txf.rd + 1) % (2 * s.cfg.cap) }
        tx := { s.tx with
          byte := Memory.read s.txf.buf (s.txf.rd % s.cfg.cap), state := .startBit, sym := .space } }) ∧
    (¬ (s.cfg.backToBack = true ∧ s.mode = .data ∧ s.txf.wr ≠ s.txf.rd) →
      exec .txstepStopBit s = .next { s with tx := { s.tx with state := .trail, sym := .mark, bits := 0 } })

/-- R118: TXSTEP.TRAIL, its four tests in order, where the count fits its register (R119 says it always does). -/
def Obligations.TxTrailTestsInOrder : Prop :=
  ∀ s : State, s.tx.bits.toNat < 255 → ∃ bits : BitVec 8, bits.toNat = s.tx.bits.toNat + 1 ∧
    (s.cfg.trailBits < s.tx.bits.toNat + 1 → s.tx.carrier = false →
      exec .txstepTrail s = .next { s with
        phase := 0, tx := { s.tx with bits := bits, state := .wait, active := false, sym := .none } }) ∧
    (s.cfg.trailBits < s.tx.bits.toNat + 1 → s.tx.carrier = true →
      exec .txstepTrail s = .next { s with tx := { s.tx with bits := bits, state := .wait, sym := .mark } }) ∧
    (s.tx.bits.toNat + 1 ≤ s.cfg.trailBits → (s.mode = .data ∧ s.txf.wr ≠ s.txf.rd) →
      exec .txstepTrail s = .next { s with
        txf := { s.txf with rd := (s.txf.rd + 1) % (2 * s.cfg.cap) }
        tx := { s.tx with
          bits := bits, byte := Memory.read s.txf.buf (s.txf.rd % s.cfg.cap), state := .startBit,
          sym := .space } }) ∧
    (s.tx.bits.toNat + 1 = s.cfg.trailBits → ¬ (s.mode = .data ∧ s.txf.wr ≠ s.txf.rd) → s.tx.carrier = false →
      exec .txstepTrail s = .next { s with phase := 0, tx := { s.tx with bits := bits, sym := .none } }) ∧
    (s.tx.bits.toNat + 1 ≤ s.cfg.trailBits → ¬ (s.mode = .data ∧ s.txf.wr ≠ s.txf.rd) →
      (s.tx.bits.toNat + 1 ≠ s.cfg.trailBits ∨ s.tx.carrier = true) →
      exec .txstepTrail s = .next { s with tx := { s.tx with bits := bits, sym := .mark } })

/-- R17, R110: between resets `tx.clk` counts the TICKs modulo `N`, whatever commands come between them. -/
def Obligations.TxBitGridNeverShifts : Prop :=
  ∀ (s : State) (is : List Instr), s.cfg.wf = true → s.tx.clk.toNat < s.cfg.bitLen →
    (∀ i ∈ is, i.wf = true) →
    ∃ t, execAll is s = .next t ∧
      t.tx.clk.toNat = (s.tx.clk.toNat + tickCount is) % s.cfg.bitLen

/-- R17: `tx.state` changes only in a TICK that finds `tx.clk` 0, or at a reset. -/
def Obligations.TxStateChangesOnlyAtBitBoundaries : Prop :=
  ∀ (s t : State) (p : PortInput) (rest : List PortInput),
    s.inputs = p :: rest → p.rst = none → step s = .next t → t.tx.state ≠ s.tx.state →
    s.tx.clk = 0 ∧ p.adc ≠ none

/-- R116: from the tick that starts a start bit on, the line carries one bit period of SPACE, the data bits lowest
first, and one bit period of MARK, whatever commands the host gives meanwhile. -/
def Obligations.TxFrameOnTheLine : Prop :=
  ∀ (s : State) (is : List Instr),
    s.cfg.wf = true → s.tx.state = .startBit → s.tx.sym = .space → s.tx.clk = 1 →
    (∀ i ∈ is, i.wf = true) → tickCount is + 1 ≤ (s.cfg.dataBits + 2) * s.cfg.bitLen →
    ∃ t, execAll is s = .next t ∧
      t.tx.sym =
        (if tickCount is / s.cfg.bitLen = 0 then .space
         else if tickCount is / s.cfg.bitLen ≤ s.cfg.dataBits then
           (if s.tx.byte.getLsbD (tickCount is / s.cfg.bitLen - 1) then .mark else .space)
         else .mark)

/-- R113 corner cases, R121: without a persistent carrier the preamble is `max(1, carrierBits)` bit periods of MARK,
and then the start bit begins. -/
def Obligations.TxPreambleLength : Prop :=
  ∀ (s : State) (as : List Byte),
    s.cfg.wf = true → s.tx.state = .wait → s.tx.clk = 0 → s.tx.carrier = false →
    s.mode = .data → s.txf.wr ≠ s.txf.rd → as ≠ [] →
    (as.length - 1) / s.cfg.bitLen ≤ max 1 s.cfg.carrierBits →
    ∃ t, execAll (as.map Instr.tick) s = .next t ∧
      ((as.length - 1) / s.cfg.bitLen < max 1 s.cfg.carrierBits → t.tx.state = .preamble ∧ t.tx.sym = .mark) ∧
      ((as.length - 1) / s.cfg.bitLen = max 1 s.cfg.carrierBits → t.tx.state = .startBit ∧ t.tx.sym = .space)

/-- R118 corner cases: with no data to send and no persistent carrier, `max(1, trailBits)` bit periods of MARK
follow the stop bit, then silence at the bias, and `tx.active` goes OFF when the trail is over. -/
def Obligations.TxTrailThenSilence : Prop :=
  ∀ (s : State) (as : List Byte),
    s.cfg.wf = true → s.tx.state = .stopBit → s.tx.clk = 0 → s.tx.carrier = false → s.tx.active = true →
    (s.mode = .command ∨ s.txf.wr = s.txf.rd) → as ≠ [] →
    ∃ t, execAll (as.map Instr.tick) s = .next t ∧
      ((as.length - 1) / s.cfg.bitLen < max 1 s.cfg.trailBits → t.tx.sym = .mark) ∧
      (max 1 s.cfg.trailBits ≤ (as.length - 1) / s.cfg.bitLen →
        t.tx.sym = .none ∧ t.phase = 0 ∧ t.dac = 128) ∧
      t.tx.active = decide ((as.length - 1) / s.cfg.bitLen ≤ s.cfg.trailBits) ∧
      t.tx.state = (if (as.length - 1) / s.cfg.bitLen ≤ s.cfg.trailBits then .trail else .wait)

/-- R206: in WAIT with nothing to send, `tx.active` ON keeps MARK on the line for good, also with `tx.carrier`
OFF. -/
def Obligations.ActiveOutlivesTheCarrierFlag : Prop :=
  ∀ (s : State) (as : List Byte),
    s.tx.state = .wait → s.tx.active = true → s.tx.sym = .mark →
    (s.mode = .command ∨ s.txf.wr = s.txf.rd) →
    ∃ t, execAll (as.map Instr.tick) s = .next t ∧
      t.tx.state = .wait ∧ t.tx.active = true ∧ t.tx.sym = .mark ∧ t.txf = s.txf

/-! ## WaveTable -/

/-- R76, R77, R101, R102: WAVE drives the sample at `phase[15:8]` and then advances the phase by the step of the
selected symbol of the pair that `dir` and `rev` bind to the transmitter. -/
def Obligations.WaveDrivesAndAdvances : Prop :=
  ∀ s : State, ∃ (pair : TonePair) (stepBy : BitVec 16),
    pair = (if (s.dir = .answering ↔ s.rev = true) then s.cfg.tone0 else s.cfg.tone1) ∧
    stepBy = (match s.tx.sym with | .space => pair.spaceStep | .mark => pair.markStep | .none => 0) ∧
    exec .wave s = .next { s with
      dac := sample (BitVec.ofNat 8 (s.phase.toNat / 256))
      phase := BitVec.ofNat 16 ((s.phase.toNat + stepBy.toNat) % 65536) }

/-- R72, R73, R74: `sample` over the whole first quarter period, which is the ROM entry by entry; its two symmetries,
which give the rest; its range; and the spec's examples in the other three quarters. -/
def Obligations.SampleIsSymmetric : Prop :=
  (∀ idx : Byte, idx.toNat < 128 → sample idx = sample (127 - idx)) ∧
  (∀ idx : Byte, 128 ≤ idx.toNat → (sample idx).toNat = 256 - (sample (idx - 128)).toNat) ∧
  (∀ idx : Byte, 1 ≤ (sample idx).toNat) ∧
  ((List.range 64).map fun i => sample (BitVec.ofNat 8 i)) =
    [128, 131, 134, 137, 140, 144, 147, 150, 153, 156, 159, 162, 165, 168, 171, 174] ++
    [177, 179, 182, 185, 188, 191, 193, 196, 199, 201, 204, 206, 209, 211, 213, 216] ++
    [218, 220, 222, 224, 226, 228, 230, 232, 234, 235, 237, 239, 240, 241, 243, 244] ++
    [245, 246, 248, 249, 250, 250, 251, 252, 253, 253, 254, 254, 254, 255, 255, 255] ∧
  sample 70 = 253 ∧ sample 96 = 216 ∧ sample 127 = 128 ∧ sample 128 = 128 ∧ sample 200 = 4 ∧ sample 255 = 128

/-- R75: `lerp` by its formula, between its end points, monotonic in the fraction. -/
def Obligations.LerpIsMonotonicAndInRange : Prop :=
  ∀ v0 v1 t : Byte,
    ((lerp v0 v1 t).toNat : Int) = (v0.toNat : Int) + (((v1.toNat : Int) - v0.toNat) * t.toNat) / 256 ∧
    lerp v0 v1 0 = v0 ∧ lerp v0 v0 t = v0 ∧
    (v0 < v1 → v0 ≤ lerp v0 v1 t ∧ lerp v0 v1 t < v1) ∧ (v1 < v0 → v1 ≤ lerp v0 v1 t ∧ lerp v0 v1 t ≤ v0) ∧
    ∀ u : Byte, t ≤ u →
      (v0 ≤ v1 → lerp v0 v1 t ≤ lerp v0 v1 u) ∧ (v1 ≤ v0 → lerp v0 v1 u ≤ lerp v0 v1 t)

/-- R71: `StepOf` is the quotient rounded to nearest with ties up, and `CFG0` is well-formed (R1). -/
def Obligations.StepOfRoundsToNearest : Prop :=
  (∀ f r : Nat, 0 < r → 2 * r * stepOf f r ≤ 131072 * f + r ∧ 131072 * f + r < 2 * r * (stepOf f r + 1)) ∧
  stepOf 1070 9600 = 7305 ∧ stepOf 1270 9600 = 8670 ∧ stepOf 2025 9600 = 13824 ∧ stepOf 2225 9600 = 15189 ∧
  stepOf 1 131072 = 1 ∧ cfg0.wf = true

/-- After reset, in COMMAND mode and with no carrier requested, the DAC holds the bias whatever the ADC carries
and however long it runs (`40_wavetable.md` R76, `95_test_vectors.md` section 6.9). -/
def Obligations.ResetIsSilent : Prop :=
  ∀ (c : Cfg) (as : List Byte), c.wf = true →
    ∃ t, execAll (as.map Instr.tick) (State.resetWith c) = .next t ∧
      t.dac = 128 ∧ t.phase = 0 ∧ t.tx.sym = .none ∧ t.tx.state = .wait

/-! ## RxDemodulator -/

/-- R130 to R133: DEMOD in exact integers. Nothing is lost in the taps, whatever they held before. -/
def Obligations.DemodIsExact : Prop :=
  ∀ (s : State) (a : Byte), ∃ (t : State) (p : Int),
    exec (.demod a) s = .next t ∧ t = { s with iir := t.iir, delay := t.delay } ∧
    p = ((a.toNat : Int) - 128) * ((s.delay.oldest.toNat : Int) - 128) ∧
    t.iir.x0 = s.iir.x1 ∧ t.iir.x1.toInt = p ∧ t.iir.y0 = s.iir.y1 ∧
    t.iir.y1.toInt = s.iir.x1.toInt + p + s.iir.y1.toInt / 2 ∧
    t.delay.toList = s.delay.toList.tail ++ [a]

/-- R134: the ranges of the taps, and how the filter decays on a silent line. -/
def Obligations.FilterStaysInItsRange : Prop :=
  ∀ (s t : State) (a : Byte), exec (.demod a) s = .next t →
    (-16256 ≤ t.iir.x1.toInt ∧ t.iir.x1.toInt ≤ 16384) ∧
    (-16256 ≤ s.iir.x1.toInt → s.iir.x1.toInt ≤ 16384 → -65536 ≤ s.iir.y1.toInt → s.iir.y1.toInt ≤ 65536 →
      -65280 ≤ t.iir.y1.toInt ∧ t.iir.y1.toInt ≤ 65536) ∧
    (a = 128 → s.iir.x1 = 0 →
      (0 < s.iir.y1.toInt → 0 ≤ t.iir.y1.toInt ∧ t.iir.y1.toInt < s.iir.y1.toInt) ∧
      (s.iir.y1.toInt = 0 → t.iir.y1.toInt = 0) ∧
      (s.iir.y1.toInt < 0 → s.iir.y1.toInt ≤ t.iir.y1.toInt ∧ t.iir.y1.toInt ≤ -1) ∧
      (s.iir.y1.toInt = -1 → t.iir.y1.toInt = -1))

/-- R132: over any TICKs the delay line holds the latest raw samples, oldest first, and keeps its length. -/
def Obligations.DelayLineHoldsTheLatestSamples : Prop :=
  ∀ (s : State) (as : List Byte), ∃ t, execAll (as.map Instr.tick) s = .next t ∧
    t.delay.toList = (s.delay.toList ++ as).drop as.length

/-! ## RxFramer -/

/-- R140: RXSTEP shifts the symbol into `rx.sr`, then runs the rule that `rx.state` selects. -/
def Obligations.RxstepShiftsThenRunsTheSelectedRule : Prop :=
  ∀ (s : State) (sym : Bool), ∃ u t,
    u = { s with rx := { s.rx with sr := u.rx.sr } } ∧
    u.rx.sr.getLsbD 0 = sym ∧ u.rx.sr.getLsbD 1 = s.rx.sr.getLsbD 0 ∧
    exec (rxRuleOf sym s.rx.state) u = .next t ∧ exec (.rxstep sym) s = .next t

/-- R141: RXSTEP.CARRIER, where the count fits its register. -/
def Obligations.RxCarrierCountsHighSymbols : Prop :=
  ∀ s : State,
    exec (.rxstepCarrier false) s = .next { s with rx := { s.rx with cdCount := 0 } } ∧
    (s.rx.cdCount.toNat < 65535 → ∃ c : BitVec 16, c.toNat = s.rx.cdCount.toNat + 1 ∧
      (c.toNat < s.cfg.cdTicks - s.cfg.cdTicks / 16 →
        exec (.rxstepCarrier true) s = .next { s with rx := { s.rx with cdCount := c } }) ∧
      (s.cfg.cdTicks - s.cfg.cdTicks / 16 ≤ c.toNat →
        exec (.rxstepCarrier true) s = .next { s with
          rx := { s.rx with cdCount := c, carrier := true, state := .wait } }))

/-- R142: RXSTEP.WAIT starts a candidate on the pattern `10` and on no other. -/
def Obligations.RxWaitStartsOnAnEdge : Prop :=
  ∀ s : State,
    (s.rx.sr = 0b10 → exec .rxstepWait s = .next { s with
      rx := { s.rx with bitClock := 0, bitSum := 0, state := .preamble } }) ∧
    (s.rx.sr ≠ 0b10 → exec .rxstepWait s = .next s)

/-- R143, R144: RXSTEP.PREAMBLE and RXSTEP.START_BIT count the candidate start bit and judge it at the half bit and
at the full bit, where the counters fit their registers. -/
def Obligations.RxStartBitIsJudgedTwice : Prop :=
  ∀ (s : State) (sym : Bool), s.rx.bitSum.toNat < 65535 → s.rx.bitClock.toNat < 65535 →
    ∃ sum clock : BitVec 16, sum.toNat = s.rx.bitSum.toNat + (if sym then 1 else 0) ∧
      clock.toNat = s.rx.bitClock.toNat + 1 ∧
      (clock.toNat < s.cfg.bitLen / 2 →
        exec (.rxstepPreamble sym) s = .next { s with rx := { s.rx with bitSum := sum, bitClock := clock } }) ∧
      (s.cfg.bitLen / 2 ≤ clock.toNat → s.cfg.bitLen / 8 < sum.toNat →
        exec (.rxstepPreamble sym) s = .next { s with
          rx := { s.rx with bitSum := sum, bitClock := clock, state := .wait } }) ∧
      (s.cfg.bitLen / 2 ≤ clock.toNat → sum.toNat ≤ s.cfg.bitLen / 8 →
        exec (.rxstepPreamble sym) s = .next { s with
          rx := { s.rx with bitSum := sum, bitClock := clock, state := .startBit } }) ∧
      (clock.toNat < s.cfg.bitLen →
        exec (.rxstepStartBit sym) s = .next { s with rx := { s.rx with bitSum := sum, bitClock := clock } }) ∧
      (s.cfg.bitLen ≤ clock.toNat → s.cfg.bitLen / 4 < sum.toNat →
        exec (.rxstepStartBit sym) s = .next { s with
          rx := { s.rx with bitSum := sum, bitClock := clock, state := .wait } }) ∧
      (s.cfg.bitLen ≤ clock.toNat → sum.toNat ≤ s.cfg.bitLen / 4 →
        exec (.rxstepStartBit sym) s = .next { s with
          rx := { s.rx with bitSum := 0, bitClock := 0, bits := 0, state := .dataBit } })

/-- R146: RXSTEP.DATA_BIT votes over a bit period and shifts the bit in at the top, where the counters fit their
registers. -/
def Obligations.RxDataBitVotes : Prop :=
  ∀ (s : State) (sym : Bool),
    s.rx.bitSum.toNat < 65535 → s.rx.bitClock.toNat < 65535 → s.rx.bits.toNat < 15 → s.cfg.bitLen < 65536 →
    ∃ (sum clock half : BitVec 16) (byte : Byte) (bits : BitVec 4),
      sum.toNat = s.rx.bitSum.toNat + (if sym then 1 else 0) ∧ clock.toNat = s.rx.bitClock.toNat + 1 ∧
      half.toNat = s.cfg.bitLen / 2 ∧ bits.toNat = s.rx.bits.toNat + 1 ∧
      byte.toNat = s.rx.byte.toNat / 2 + (if s.cfg.bitLen / 2 < sum.toNat then 128 else 0) ∧
      (clock.toNat < s.cfg.bitLen →
        exec (.rxstepDataBit sym) s = .next { s with rx := { s.rx with bitSum := sum, bitClock := clock } }) ∧
      (s.cfg.bitLen ≤ clock.toNat → s.cfg.dataBits ≤ bits.toNat →
        exec (.rxstepDataBit sym) s = .next { s with
          rx := { s.rx with byte := byte, bits := bits, bitSum := 0, bitClock := half, state := .stopBit } }) ∧
      (s.cfg.bitLen ≤ clock.toNat → bits.toNat < s.cfg.dataBits →
        exec (.rxstepDataBit sym) s = .next { s with
          rx := { s.rx with byte := byte, bits := bits, bitSum := 0, bitClock := 0 } })

/-- R147, R148: RXSTEP.STOP_BIT counts the first half of the stop bit, returns to WAIT at its end, and enqueues the
right-aligned byte exactly when the stop bit is valid, the mode is DATA and the FIFO is not full. The counters fit
their registers and the buffer has its canonical form. -/
def Obligations.RxStopBitDeliversOrDiscards : Prop :=
  ∀ (s : State) (sym : Bool),
    s.rx.bitSum.toNat < 65535 → s.rx.bitClock.toNat < 65535 → Memory.wf s.rxf.buf = true →
    ∃ (sum clock : BitVec 16) (t : State),
      sum.toNat = s.rx.bitSum.toNat + (if sym then 1 else 0) ∧ clock.toNat = s.rx.bitClock.toNat + 1 ∧
      exec (.rxstepStopBit sym) s = .next t ∧
      (clock.toNat < s.cfg.bitLen → t = { s with rx := { s.rx with bitSum := sum, bitClock := clock } }) ∧
      (s.cfg.bitLen ≤ clock.toNat →
        t = { s with rx := { s.rx with bitSum := sum, bitClock := clock, state := .wait }, rxf := t.rxf } ∧
        ((s.cfg.bitLen / 4 < sum.toNat ∧ s.mode = .data ∧ s.rxf.held s.cfg.cap ≠ s.cfg.cap) →
          t.rxf.rd = s.rxf.rd ∧ t.rxf.wr = (s.rxf.wr + 1) % (2 * s.cfg.cap) ∧
          (Memory.read t.rxf.buf (s.rxf.wr % s.cfg.cap)).toNat = s.rx.byte.toNat / 2 ^ (8 - s.cfg.dataBits) ∧
          ∀ a, a ≠ s.rxf.wr % s.cfg.cap → Memory.read t.rxf.buf a = Memory.read s.rxf.buf a) ∧
        (¬ (s.cfg.bitLen / 4 < sum.toNat ∧ s.mode = .data ∧ s.rxf.held s.cfg.cap ≠ s.cfg.cap) →
          t.rxf = s.rxf))

/-- R141, R150 (c): from an empty count, carrier is declared on the `CD_THRESH`-th consecutive HIGH symbol and not
before, and then stays. -/
def Obligations.CarrierIsDeclaredOnTime : Prop :=
  ∀ (s : State) (n : Nat), s.cfg.wf = true → s.rx.state = .carrier → s.rx.cdCount = 0 →
    ∃ t, execAll (List.replicate n (.rxstep true)) s = .next t ∧
      (n < s.cfg.cdTicks - s.cfg.cdTicks / 16 →
        t.rx.state = .carrier ∧ t.rx.cdCount.toNat = n ∧ t.rx.carrier = s.rx.carrier) ∧
      (s.cfg.cdTicks - s.cfg.cdTicks / 16 ≤ n →
        t.rx.state = .wait ∧ t.rx.cdCount.toNat = s.cfg.cdTicks - s.cfg.cdTicks / 16 ∧ t.rx.carrier = true)

/-- R150 (b): a start-bit candidate is rejected exactly when more than an eighth of a bit of HIGH symbols stand in
its first half bit, and no byte is emitted either way. -/
def Obligations.NoisyStartBitIsRejected : Prop :=
  ∀ (s : State) (syms : List Bool),
    s.cfg.wf = true → s.rx.state = .wait → s.rx.sr.getLsbD 0 = true → syms.length = s.cfg.bitLen / 2 →
    ∃ t, execAll ((false :: syms).map Instr.rxstep) s = .next t ∧
      t.rx.state = (if s.cfg.bitLen / 8 < syms.count true then .wait else .startBit) ∧
      t.rx.bitSum.toNat = syms.count true ∧ t.rx.bitClock.toNat = s.cfg.bitLen / 2 ∧ t.rxf = s.rxf

/-- R150 (a), R116, R147: frames back to back on the line, `N` ticks a bit, come out of `RXF` as the bytes that were
sent, each cut to its `dataBits` low bits and in order. -/
def Obligations.FramesAreReceivedAsSent : Prop :=
  ∀ (s : State) (bs : List Byte),
    s.cfg.wf = true → s.rx.state = .wait → s.rx.sr.getLsbD 0 = true → s.mode = .data →
    s.rxf.Inv s.cfg.cap → s.rxf.len s.cfg.cap + bs.length ≤ s.cfg.cap →
    ∃ t, execAll ((bs.flatMap (frameSymbols s.cfg)).map Instr.rxstep) s = .next t ∧
      t.rx.state = .wait ∧
      t.rxf.items s.cfg.cap =
        s.rxf.items s.cfg.cap ++ bs.map (fun b => BitVec.ofNat 8 (b.toNat % 2 ^ s.cfg.dataBits))

/-! ## Rights of the two agents -/

/-- R180, R189: every operation, and every sub-operation of TICK, completes in every state. Outside the invariant this
rests on the model's choices (log entries 5 and 6). -/
def Obligations.EveryOperationCompletes : Prop :=
  ∀ (i : Instr) (s : State), ∃ t, exec i s = .next t

/-- R190: what a host command and a TICK may not write, and the only values a host command writes into the receive
half. -/
def Obligations.AgentsKeepTheirRights : Prop :=
  ∀ (i : Instr) (s t : State), i.wf = true → exec i s = .next t →
    t.cfg = s.cfg ∧ t.inputs = s.inputs ∧
    (isTick i = false →
      t.phase = s.phase ∧ t.tx = { s.tx with carrier := t.tx.carrier } ∧ t.dac = s.dac ∧
      t.txf.rd = s.txf.rd ∧ t.rxf.wr = s.rxf.wr ∧ t.rxf.buf = s.rxf.buf ∧
      (t.rx = s.rx ∨ t.rx = { s.rx.cleared with state := .carrier, carrier := false } ∨
        t.rx = { s.rx.cleared with state := .wait, carrier := true }) ∧
      (t.iir = s.iir ∨ t.iir = { x0 := 0, x1 := 0, y0 := 0, y1 := 0 }) ∧
      (t.delay = s.delay ∨ ∀ b ∈ t.delay.toList, b = 128)) ∧
    (isTick i = true →
      t.mode = s.mode ∧ t.dir = s.dir ∧ t.rev = s.rev ∧ t.tx.carrier = s.tx.carrier ∧
      t.txf = { s.txf with rd := t.txf.rd } ∧ t.rxf = { s.rxf with buf := t.rxf.buf, wr := t.rxf.wr } ∧
      t.rsp = s.rsp)

/-- Each control bit has the writers that `10_state.md` section 3 names, and no others, in each direction in which a
writer can change it (R13, R14, R183). -/
def Obligations.ControlBitsChangeOnlyByTheirWriters : Prop :=
  ∀ (i : Instr) (s t : State), exec i s = .next t →
    (t.mode ≠ s.mode → i = .setline t.mode) ∧
    ((t.dir ≠ s.dir ∨ t.rev ≠ s.rev) → i = .setdir t.dir t.rev) ∧
    (t.tx.carrier ≠ s.tx.carrier → i = .txcarrier t.tx.carrier) ∧
    (s.tx.active = false → t.tx.active = true → isTick i = true ∨ i = .txstep ∨ i = .txstepWait) ∧
    (s.tx.active = true → t.tx.active = false → isTick i = true ∨ i = .txstep ∨ i = .txstepTrail) ∧
    (s.rx.carrier = false → t.rx.carrier = true →
      isTick i = true ∨ i = .rxstep true ∨ i = .rxstepCarrier true ∨ i = .rxcarrier true) ∧
    (s.rx.carrier = true → t.rx.carrier = false → i = .rxcarrier false ∨ i = .setdir t.dir t.rev)

/-- R149, R183: no number of TICKs loses a declared carrier or leads back to carrier search. -/
def Obligations.TicksNeverLoseTheCarrier : Prop :=
  ∀ (s : State) (as : List Byte), ∃ t, execAll (as.map Instr.tick) s = .next t ∧
    (s.rx.carrier = true → t.rx.carrier = true) ∧ (s.rx.state ≠ .carrier → t.rx.state ≠ .carrier)
end

