-- ==== Sys2Proof/Laws/Decode.lean ====
section
/-! SUPPORT. The opcode map's rows are disjoint (`30_encoding.md` R55). -/

namespace Sys2Proof

/-- Two different rows differ in a bit that both masks hold. -/
theorem opRows_conflict :
    opRows.Pairwise (fun r q => r.pattern &&& q.mask ≠ q.pattern &&& r.mask) := by decide

/-- A word that selects two rows makes them agree on the bits both masks hold. -/
theorem rowSelects_agree (r q : OpRow) (w : Word) (hr : rowSelects r w = true) (hq : rowSelects q w = true) :
    r.pattern &&& q.mask = q.pattern &&& r.mask := by
  have h1 : w &&& r.mask = r.pattern := by simpa [rowSelects] using hr
  have h2 : w &&& q.mask = q.pattern := by simpa [rowSelects] using hq
  rw [← h1, ← h2, BitVec.and_assoc, BitVec.and_assoc, BitVec.and_comm r.mask]

end Sys2Proof
end

