-- ==== Sys2Proof/Laws/Memory.lean ====
section
/-! SUPPORT. The small memories: reads after writes, and the canonical form that every operation keeps. -/

namespace Sys2Proof.Machine

/-- Below every listed address nothing is listed. -/
theorem Memory.read_below (m : Memory) (a : Nat) (h : ∀ c ∈ m, a < c.1) : Memory.read m a = unlistedByte := by
  induction m with
  | nil => rfl
  | cons c m ih =>
    have h1 := h c (by simp)
    rw [Memory.read, if_neg (by omega)]
    exact ih (fun d hd => h d (by simp [hd]))

/-- The canonical form of a non-empty memory, opened. -/
theorem Memory.wf_cons (a : Nat) (v : Byte) (m : Memory) :
    Memory.wf ((a, v) :: m) = true ↔ v ≠ unlistedByte ∧ (∀ c ∈ m, a < c.1) ∧ Memory.wf m = true := by
  simp [Memory.wf, and_assoc]

/-- Every address a write leaves listed was listed or is the one written. -/
theorem Memory.write_mem (m : Memory) (a : Nat) (v : Byte) (c : Host.Cell) (h : c ∈ Memory.write m a v) :
    c ∈ m ∨ c = (a, v) := by
  induction m with
  | nil =>
    unfold Memory.write at h
    split at h <;> simp_all
  | cons d m ih =>
    unfold Memory.write at h
    split at h
    · split at h
      · exact .inl h
      · simp only [List.mem_cons] at h ⊢
        tauto
    · split at h
      · split at h
        · exact .inl (by simp [h])
        · simp only [List.mem_cons] at h ⊢
          tauto
      · simp only [List.mem_cons] at h ⊢
        rcases h with h | h
        · exact .inl (.inl h)
        · rcases ih h with h | h
          · exact .inl (.inr h)
          · exact .inr h

/-- A write keeps the canonical form. -/
theorem Memory.write_wf (m : Memory) (a : Nat) (v : Byte) (h : Memory.wf m = true) :
    Memory.wf (Memory.write m a v) = true := by
  induction m with
  | nil =>
    unfold Memory.write
    split <;> simp_all [Memory.wf]
  | cons d m ih =>
    obtain ⟨b, w⟩ := d
    obtain ⟨hw, hlt, hm⟩ := (Memory.wf_cons b w m).1 h
    unfold Memory.write
    split
    · rename_i hab
      split
      · exact h
      · rename_i hv
        refine (Memory.wf_cons a v _).2 ⟨hv, ?_, h⟩
        intro c hc
        rcases List.mem_cons.1 hc with rfl | hc
        · exact hab
        · have := hlt c hc
          omega
    · split
      · rename_i _ hab
        subst hab
        split
        · exact hm
        · rename_i hv
          exact (Memory.wf_cons _ v m).2 ⟨hv, hlt, hm⟩
      · rename_i h1 h2
        refine (Memory.wf_cons b w _).2 ⟨hw, ?_, ih hm⟩
        intro c hc
        rcases Memory.write_mem m a v c hc with hc | rfl
        · exact hlt c hc
        · show b < a
          omega

/-- What a read gives after a write, in canonical memory. -/
theorem Memory.read_write (m : Memory) (a x : Nat) (v : Byte) (h : Memory.wf m = true) :
    Memory.read (Memory.write m a v) x = if x = a then v else Memory.read m x := by
  induction m with
  | nil =>
    unfold Memory.write
    by_cases hv : v = unlistedByte
    · rw [if_pos hv, Memory.read]
      split
      · exact hv.symm
      · rfl
    · rw [if_neg hv, Memory.read, Memory.read]
      by_cases hx : x = a
      · rw [if_pos hx.symm, if_pos hx]
      · rw [if_neg (Ne.symm hx), if_neg hx, Memory.read]
  | cons d m ih =>
    obtain ⟨b, w⟩ := d
    obtain ⟨hw, hlt, hm⟩ := (Memory.wf_cons b w m).1 h
    unfold Memory.write
    by_cases hab : a < b
    · rw [if_pos hab]
      have hread : Memory.read ((b, w) :: m) a = unlistedByte :=
        Memory.read_below _ a (by
          intro c hc
          rcases List.mem_cons.1 hc with rfl | hc
          · exact hab
          · have := hlt c hc
            omega)
      by_cases hv : v = unlistedByte
      · rw [if_pos hv]
        by_cases hx : x = a
        · rw [if_pos hx, hx, hread, hv]
        · rw [if_neg hx]
      · rw [if_neg hv, Memory.read]
        by_cases hx : x = a
        · rw [if_pos hx.symm, if_pos hx]
        · rw [if_neg (Ne.symm hx), if_neg hx]
    · rw [if_neg hab]
      by_cases hEq : a = b
      · subst hEq
        rw [if_pos rfl]
        have hread : Memory.read m a = unlistedByte := Memory.read_below m a hlt
        by_cases hv : v = unlistedByte
        · rw [if_pos hv]
          by_cases hx : x = a
          · rw [if_pos hx, hx, hread, hv]
          · rw [if_neg hx, Memory.read, if_neg (Ne.symm hx)]
        · rw [if_neg hv, Memory.read, Memory.read]
          by_cases hx : x = a
          · rw [if_pos hx.symm, if_pos hx]
          · rw [if_neg (Ne.symm hx), if_neg hx, if_neg (Ne.symm hx)]
      · rw [if_neg hEq, Memory.read, Memory.read, ih hm]
        by_cases hx : b = x
        · rw [if_pos hx, if_pos hx, if_neg (by omega)]
        · rw [if_neg hx, if_neg hx]

/-- The reset buffer has the canonical form. -/
theorem Memory.wf_nil : Memory.wf [] = true := rfl

end Sys2Proof.Machine
end

