-- ==== Sys2Proof/Laws/Fifo.lean ====
section
/-! SUPPORT. The FIFO primitives (`41_bytefifo.md` R81 to R85): what each can do. -/

namespace Sys2Proof.Machine

/-- The occupancy is below `2·CAP`. -/
theorem Fifo.len_lt (cap : Nat) (q : Fifo) (h : 0 < cap) : q.len cap < 2 * cap :=
  Nat.mod_lt _ (by omega)

/-- R82, opened. -/
theorem Fifo.empty_iff (q : Fifo) : q.empty = true ↔ q.wr = q.rd := by
  simp [Fifo.empty]

/-- R83, opened. -/
theorem Fifo.full_iff (cap : Nat) (q : Fifo) : q.full cap = true ↔ q.len cap = cap := by
  simp [Fifo.full]

/-- What `in` can do (R84). -/
theorem Fifo.enqueue_cases (cap : Nat) (q : Fifo) (b : Byte) :
    (q.len cap = cap ∧ q.enqueue cap b = (false, q)) ∨
    (q.len cap ≠ cap ∧ q.enqueue cap b = (true, q.push cap b)) := by
  by_cases h : q.len cap = cap
  · exact .inl ⟨h, by simp [Fifo.enqueue, Fifo.full, h]⟩
  · exact .inr ⟨h, by simp [Fifo.enqueue, Fifo.full, h]⟩

/-- What `out` can do (R85). -/
theorem Fifo.dequeue_cases (cap : Nat) (q : Fifo) :
    (q.wr = q.rd ∧ q.dequeue cap = none) ∨
    (q.wr ≠ q.rd ∧ q.dequeue cap =
      some (Memory.read q.buf (q.rd % cap), { q with rd := (q.rd + 1) % (2 * cap) })) := by
  by_cases h : q.wr = q.rd
  · exact .inl ⟨h, by simp [Fifo.dequeue, Fifo.empty, h]⟩
  · exact .inr ⟨h, by simp [Fifo.dequeue, Fifo.empty, h]⟩

/-- A push keeps the buffer's canonical form, and its read side. -/
theorem Fifo.push_wf (cap : Nat) (q : Fifo) (b : Byte) (h : Memory.wf q.buf = true) :
    Memory.wf (q.push cap b).buf = true :=
  Memory.write_wf q.buf _ b h

@[simp] theorem Fifo.push_rd (cap : Nat) (q : Fifo) (b : Byte) : (q.push cap b).rd = q.rd := rfl

@[simp] theorem Fifo.push_wr (cap : Nat) (q : Fifo) (b : Byte) :
    (q.push cap b).wr = (q.wr + 1) % (2 * cap) := rfl

/-- What one entry reads as after a push. -/
theorem Fifo.push_read (cap : Nat) (q : Fifo) (b : Byte) (a : Nat) (h : Memory.wf q.buf = true) :
    Memory.read (q.push cap b).buf a = if a = q.wr % cap then b else Memory.read q.buf a :=
  Memory.read_write q.buf _ a b h

/-- The reset FIFO is empty. -/
theorem Fifo.emptied_empty : Fifo.emptied.empty = true := rfl

end Sys2Proof.Machine
end

