-- ==== Sys2Proof/Laws/State.lean ====
section
/-! SUPPORT. What each update of the state leaves in each field: one lemma per field per update. -/

namespace Sys2Proof.Machine

@[simp] theorem State.setInputs_cfg (s : State) (v : List PortInput) : (s.setInputs v).cfg = s.cfg := rfl
@[simp] theorem State.setInputs_inputs (s : State) (v : List PortInput) : (s.setInputs v).inputs = v := rfl
@[simp] theorem State.setInputs_mode (s : State) (v : List PortInput) : (s.setInputs v).mode = s.mode := rfl
@[simp] theorem State.setInputs_dir (s : State) (v : List PortInput) : (s.setInputs v).dir = s.dir := rfl
@[simp] theorem State.setInputs_rev (s : State) (v : List PortInput) : (s.setInputs v).rev = s.rev := rfl
@[simp] theorem State.setInputs_phase (s : State) (v : List PortInput) : (s.setInputs v).phase = s.phase := rfl
@[simp] theorem State.setInputs_tx (s : State) (v : List PortInput) : (s.setInputs v).tx = s.tx := rfl
@[simp] theorem State.setInputs_rx (s : State) (v : List PortInput) : (s.setInputs v).rx = s.rx := rfl
@[simp] theorem State.setInputs_iir (s : State) (v : List PortInput) : (s.setInputs v).iir = s.iir := rfl
@[simp] theorem State.setInputs_delay (s : State) (v : List PortInput) : (s.setInputs v).delay = s.delay := rfl
@[simp] theorem State.setInputs_txf (s : State) (v : List PortInput) : (s.setInputs v).txf = s.txf := rfl
@[simp] theorem State.setInputs_rxf (s : State) (v : List PortInput) : (s.setInputs v).rxf = s.rxf := rfl
@[simp] theorem State.setInputs_dac (s : State) (v : List PortInput) : (s.setInputs v).dac = s.dac := rfl
@[simp] theorem State.setInputs_rsp (s : State) (v : List PortInput) : (s.setInputs v).rsp = s.rsp := rfl

@[simp] theorem State.setMode_cfg (s : State) (v : LineMode) : (s.setMode v).cfg = s.cfg := rfl
@[simp] theorem State.setMode_inputs (s : State) (v : LineMode) : (s.setMode v).inputs = s.inputs := rfl
@[simp] theorem State.setMode_mode (s : State) (v : LineMode) : (s.setMode v).mode = v := rfl
@[simp] theorem State.setMode_dir (s : State) (v : LineMode) : (s.setMode v).dir = s.dir := rfl
@[simp] theorem State.setMode_rev (s : State) (v : LineMode) : (s.setMode v).rev = s.rev := rfl
@[simp] theorem State.setMode_phase (s : State) (v : LineMode) : (s.setMode v).phase = s.phase := rfl
@[simp] theorem State.setMode_tx (s : State) (v : LineMode) : (s.setMode v).tx = s.tx := rfl
@[simp] theorem State.setMode_rx (s : State) (v : LineMode) : (s.setMode v).rx = s.rx := rfl
@[simp] theorem State.setMode_iir (s : State) (v : LineMode) : (s.setMode v).iir = s.iir := rfl
@[simp] theorem State.setMode_delay (s : State) (v : LineMode) : (s.setMode v).delay = s.delay := rfl
@[simp] theorem State.setMode_txf (s : State) (v : LineMode) : (s.setMode v).txf = s.txf := rfl
@[simp] theorem State.setMode_rxf (s : State) (v : LineMode) : (s.setMode v).rxf = s.rxf := rfl
@[simp] theorem State.setMode_dac (s : State) (v : LineMode) : (s.setMode v).dac = s.dac := rfl
@[simp] theorem State.setMode_rsp (s : State) (v : LineMode) : (s.setMode v).rsp = s.rsp := rfl

@[simp] theorem State.setPhase_cfg (s : State) (v : BitVec 16) : (s.setPhase v).cfg = s.cfg := rfl
@[simp] theorem State.setPhase_inputs (s : State) (v : BitVec 16) : (s.setPhase v).inputs = s.inputs := rfl
@[simp] theorem State.setPhase_mode (s : State) (v : BitVec 16) : (s.setPhase v).mode = s.mode := rfl
@[simp] theorem State.setPhase_dir (s : State) (v : BitVec 16) : (s.setPhase v).dir = s.dir := rfl
@[simp] theorem State.setPhase_rev (s : State) (v : BitVec 16) : (s.setPhase v).rev = s.rev := rfl
@[simp] theorem State.setPhase_phase (s : State) (v : BitVec 16) : (s.setPhase v).phase = v := rfl
@[simp] theorem State.setPhase_tx (s : State) (v : BitVec 16) : (s.setPhase v).tx = s.tx := rfl
@[simp] theorem State.setPhase_rx (s : State) (v : BitVec 16) : (s.setPhase v).rx = s.rx := rfl
@[simp] theorem State.setPhase_iir (s : State) (v : BitVec 16) : (s.setPhase v).iir = s.iir := rfl
@[simp] theorem State.setPhase_delay (s : State) (v : BitVec 16) : (s.setPhase v).delay = s.delay := rfl
@[simp] theorem State.setPhase_txf (s : State) (v : BitVec 16) : (s.setPhase v).txf = s.txf := rfl
@[simp] theorem State.setPhase_rxf (s : State) (v : BitVec 16) : (s.setPhase v).rxf = s.rxf := rfl
@[simp] theorem State.setPhase_dac (s : State) (v : BitVec 16) : (s.setPhase v).dac = s.dac := rfl
@[simp] theorem State.setPhase_rsp (s : State) (v : BitVec 16) : (s.setPhase v).rsp = s.rsp := rfl

@[simp] theorem State.setTx_cfg (s : State) (v : TxRegs) : (s.setTx v).cfg = s.cfg := rfl
@[simp] theorem State.setTx_inputs (s : State) (v : TxRegs) : (s.setTx v).inputs = s.inputs := rfl
@[simp] theorem State.setTx_mode (s : State) (v : TxRegs) : (s.setTx v).mode = s.mode := rfl
@[simp] theorem State.setTx_dir (s : State) (v : TxRegs) : (s.setTx v).dir = s.dir := rfl
@[simp] theorem State.setTx_rev (s : State) (v : TxRegs) : (s.setTx v).rev = s.rev := rfl
@[simp] theorem State.setTx_phase (s : State) (v : TxRegs) : (s.setTx v).phase = s.phase := rfl
@[simp] theorem State.setTx_tx (s : State) (v : TxRegs) : (s.setTx v).tx = v := rfl
@[simp] theorem State.setTx_rx (s : State) (v : TxRegs) : (s.setTx v).rx = s.rx := rfl
@[simp] theorem State.setTx_iir (s : State) (v : TxRegs) : (s.setTx v).iir = s.iir := rfl
@[simp] theorem State.setTx_delay (s : State) (v : TxRegs) : (s.setTx v).delay = s.delay := rfl
@[simp] theorem State.setTx_txf (s : State) (v : TxRegs) : (s.setTx v).txf = s.txf := rfl
@[simp] theorem State.setTx_rxf (s : State) (v : TxRegs) : (s.setTx v).rxf = s.rxf := rfl
@[simp] theorem State.setTx_dac (s : State) (v : TxRegs) : (s.setTx v).dac = s.dac := rfl
@[simp] theorem State.setTx_rsp (s : State) (v : TxRegs) : (s.setTx v).rsp = s.rsp := rfl

@[simp] theorem State.setRx_cfg (s : State) (v : RxRegs) : (s.setRx v).cfg = s.cfg := rfl
@[simp] theorem State.setRx_inputs (s : State) (v : RxRegs) : (s.setRx v).inputs = s.inputs := rfl
@[simp] theorem State.setRx_mode (s : State) (v : RxRegs) : (s.setRx v).mode = s.mode := rfl
@[simp] theorem State.setRx_dir (s : State) (v : RxRegs) : (s.setRx v).dir = s.dir := rfl
@[simp] theorem State.setRx_rev (s : State) (v : RxRegs) : (s.setRx v).rev = s.rev := rfl
@[simp] theorem State.setRx_phase (s : State) (v : RxRegs) : (s.setRx v).phase = s.phase := rfl
@[simp] theorem State.setRx_tx (s : State) (v : RxRegs) : (s.setRx v).tx = s.tx := rfl
@[simp] theorem State.setRx_rx (s : State) (v : RxRegs) : (s.setRx v).rx = v := rfl
@[simp] theorem State.setRx_iir (s : State) (v : RxRegs) : (s.setRx v).iir = s.iir := rfl
@[simp] theorem State.setRx_delay (s : State) (v : RxRegs) : (s.setRx v).delay = s.delay := rfl
@[simp] theorem State.setRx_txf (s : State) (v : RxRegs) : (s.setRx v).txf = s.txf := rfl
@[simp] theorem State.setRx_rxf (s : State) (v : RxRegs) : (s.setRx v).rxf = s.rxf := rfl
@[simp] theorem State.setRx_dac (s : State) (v : RxRegs) : (s.setRx v).dac = s.dac := rfl
@[simp] theorem State.setRx_rsp (s : State) (v : RxRegs) : (s.setRx v).rsp = s.rsp := rfl

@[simp] theorem State.setIir_cfg (s : State) (v : IirTaps) : (s.setIir v).cfg = s.cfg := rfl
@[simp] theorem State.setIir_inputs (s : State) (v : IirTaps) : (s.setIir v).inputs = s.inputs := rfl
@[simp] theorem State.setIir_mode (s : State) (v : IirTaps) : (s.setIir v).mode = s.mode := rfl
@[simp] theorem State.setIir_dir (s : State) (v : IirTaps) : (s.setIir v).dir = s.dir := rfl
@[simp] theorem State.setIir_rev (s : State) (v : IirTaps) : (s.setIir v).rev = s.rev := rfl
@[simp] theorem State.setIir_phase (s : State) (v : IirTaps) : (s.setIir v).phase = s.phase := rfl
@[simp] theorem State.setIir_tx (s : State) (v : IirTaps) : (s.setIir v).tx = s.tx := rfl
@[simp] theorem State.setIir_rx (s : State) (v : IirTaps) : (s.setIir v).rx = s.rx := rfl
@[simp] theorem State.setIir_iir (s : State) (v : IirTaps) : (s.setIir v).iir = v := rfl
@[simp] theorem State.setIir_delay (s : State) (v : IirTaps) : (s.setIir v).delay = s.delay := rfl
@[simp] theorem State.setIir_txf (s : State) (v : IirTaps) : (s.setIir v).txf = s.txf := rfl
@[simp] theorem State.setIir_rxf (s : State) (v : IirTaps) : (s.setIir v).rxf = s.rxf := rfl
@[simp] theorem State.setIir_dac (s : State) (v : IirTaps) : (s.setIir v).dac = s.dac := rfl
@[simp] theorem State.setIir_rsp (s : State) (v : IirTaps) : (s.setIir v).rsp = s.rsp := rfl

@[simp] theorem State.setDelay_cfg (s : State) (v : DelayLine) : (s.setDelay v).cfg = s.cfg := rfl
@[simp] theorem State.setDelay_inputs (s : State) (v : DelayLine) : (s.setDelay v).inputs = s.inputs := rfl
@[simp] theorem State.setDelay_mode (s : State) (v : DelayLine) : (s.setDelay v).mode = s.mode := rfl
@[simp] theorem State.setDelay_dir (s : State) (v : DelayLine) : (s.setDelay v).dir = s.dir := rfl
@[simp] theorem State.setDelay_rev (s : State) (v : DelayLine) : (s.setDelay v).rev = s.rev := rfl
@[simp] theorem State.setDelay_phase (s : State) (v : DelayLine) : (s.setDelay v).phase = s.phase := rfl
@[simp] theorem State.setDelay_tx (s : State) (v : DelayLine) : (s.setDelay v).tx = s.tx := rfl
@[simp] theorem State.setDelay_rx (s : State) (v : DelayLine) : (s.setDelay v).rx = s.rx := rfl
@[simp] theorem State.setDelay_iir (s : State) (v : DelayLine) : (s.setDelay v).iir = s.iir := rfl
@[simp] theorem State.setDelay_delay (s : State) (v : DelayLine) : (s.setDelay v).delay = v := rfl
@[simp] theorem State.setDelay_txf (s : State) (v : DelayLine) : (s.setDelay v).txf = s.txf := rfl
@[simp] theorem State.setDelay_rxf (s : State) (v : DelayLine) : (s.setDelay v).rxf = s.rxf := rfl
@[simp] theorem State.setDelay_dac (s : State) (v : DelayLine) : (s.setDelay v).dac = s.dac := rfl
@[simp] theorem State.setDelay_rsp (s : State) (v : DelayLine) : (s.setDelay v).rsp = s.rsp := rfl

@[simp] theorem State.setTxf_cfg (s : State) (v : Fifo) : (s.setTxf v).cfg = s.cfg := rfl
@[simp] theorem State.setTxf_inputs (s : State) (v : Fifo) : (s.setTxf v).inputs = s.inputs := rfl
@[simp] theorem State.setTxf_mode (s : State) (v : Fifo) : (s.setTxf v).mode = s.mode := rfl
@[simp] theorem State.setTxf_dir (s : State) (v : Fifo) : (s.setTxf v).dir = s.dir := rfl
@[simp] theorem State.setTxf_rev (s : State) (v : Fifo) : (s.setTxf v).rev = s.rev := rfl
@[simp] theorem State.setTxf_phase (s : State) (v : Fifo) : (s.setTxf v).phase = s.phase := rfl
@[simp] theorem State.setTxf_tx (s : State) (v : Fifo) : (s.setTxf v).tx = s.tx := rfl
@[simp] theorem State.setTxf_rx (s : State) (v : Fifo) : (s.setTxf v).rx = s.rx := rfl
@[simp] theorem State.setTxf_iir (s : State) (v : Fifo) : (s.setTxf v).iir = s.iir := rfl
@[simp] theorem State.setTxf_delay (s : State) (v : Fifo) : (s.setTxf v).delay = s.delay := rfl
@[simp] theorem State.setTxf_txf (s : State) (v : Fifo) : (s.setTxf v).txf = v := rfl
@[simp] theorem State.setTxf_rxf (s : State) (v : Fifo) : (s.setTxf v).rxf = s.rxf := rfl
@[simp] theorem State.setTxf_dac (s : State) (v : Fifo) : (s.setTxf v).dac = s.dac := rfl
@[simp] theorem State.setTxf_rsp (s : State) (v : Fifo) : (s.setTxf v).rsp = s.rsp := rfl

@[simp] theorem State.setRxf_cfg (s : State) (v : Fifo) : (s.setRxf v).cfg = s.cfg := rfl
@[simp] theorem State.setRxf_inputs (s : State) (v : Fifo) : (s.setRxf v).inputs = s.inputs := rfl
@[simp] theorem State.setRxf_mode (s : State) (v : Fifo) : (s.setRxf v).mode = s.mode := rfl
@[simp] theorem State.setRxf_dir (s : State) (v : Fifo) : (s.setRxf v).dir = s.dir := rfl
@[simp] theorem State.setRxf_rev (s : State) (v : Fifo) : (s.setRxf v).rev = s.rev := rfl
@[simp] theorem State.setRxf_phase (s : State) (v : Fifo) : (s.setRxf v).phase = s.phase := rfl
@[simp] theorem State.setRxf_tx (s : State) (v : Fifo) : (s.setRxf v).tx = s.tx := rfl
@[simp] theorem State.setRxf_rx (s : State) (v : Fifo) : (s.setRxf v).rx = s.rx := rfl
@[simp] theorem State.setRxf_iir (s : State) (v : Fifo) : (s.setRxf v).iir = s.iir := rfl
@[simp] theorem State.setRxf_delay (s : State) (v : Fifo) : (s.setRxf v).delay = s.delay := rfl
@[simp] theorem State.setRxf_txf (s : State) (v : Fifo) : (s.setRxf v).txf = s.txf := rfl
@[simp] theorem State.setRxf_rxf (s : State) (v : Fifo) : (s.setRxf v).rxf = v := rfl
@[simp] theorem State.setRxf_dac (s : State) (v : Fifo) : (s.setRxf v).dac = s.dac := rfl
@[simp] theorem State.setRxf_rsp (s : State) (v : Fifo) : (s.setRxf v).rsp = s.rsp := rfl

@[simp] theorem State.setDac_cfg (s : State) (v : Byte) : (s.setDac v).cfg = s.cfg := rfl
@[simp] theorem State.setDac_inputs (s : State) (v : Byte) : (s.setDac v).inputs = s.inputs := rfl
@[simp] theorem State.setDac_mode (s : State) (v : Byte) : (s.setDac v).mode = s.mode := rfl
@[simp] theorem State.setDac_dir (s : State) (v : Byte) : (s.setDac v).dir = s.dir := rfl
@[simp] theorem State.setDac_rev (s : State) (v : Byte) : (s.setDac v).rev = s.rev := rfl
@[simp] theorem State.setDac_phase (s : State) (v : Byte) : (s.setDac v).phase = s.phase := rfl
@[simp] theorem State.setDac_tx (s : State) (v : Byte) : (s.setDac v).tx = s.tx := rfl
@[simp] theorem State.setDac_rx (s : State) (v : Byte) : (s.setDac v).rx = s.rx := rfl
@[simp] theorem State.setDac_iir (s : State) (v : Byte) : (s.setDac v).iir = s.iir := rfl
@[simp] theorem State.setDac_delay (s : State) (v : Byte) : (s.setDac v).delay = s.delay := rfl
@[simp] theorem State.setDac_txf (s : State) (v : Byte) : (s.setDac v).txf = s.txf := rfl
@[simp] theorem State.setDac_rxf (s : State) (v : Byte) : (s.setDac v).rxf = s.rxf := rfl
@[simp] theorem State.setDac_dac (s : State) (v : Byte) : (s.setDac v).dac = v := rfl
@[simp] theorem State.setDac_rsp (s : State) (v : Byte) : (s.setDac v).rsp = s.rsp := rfl

@[simp] theorem State.setRsp_cfg (s : State) (v : Word) : (s.setRsp v).cfg = s.cfg := rfl
@[simp] theorem State.setRsp_inputs (s : State) (v : Word) : (s.setRsp v).inputs = s.inputs := rfl
@[simp] theorem State.setRsp_mode (s : State) (v : Word) : (s.setRsp v).mode = s.mode := rfl
@[simp] theorem State.setRsp_dir (s : State) (v : Word) : (s.setRsp v).dir = s.dir := rfl
@[simp] theorem State.setRsp_rev (s : State) (v : Word) : (s.setRsp v).rev = s.rev := rfl
@[simp] theorem State.setRsp_phase (s : State) (v : Word) : (s.setRsp v).phase = s.phase := rfl
@[simp] theorem State.setRsp_tx (s : State) (v : Word) : (s.setRsp v).tx = s.tx := rfl
@[simp] theorem State.setRsp_rx (s : State) (v : Word) : (s.setRsp v).rx = s.rx := rfl
@[simp] theorem State.setRsp_iir (s : State) (v : Word) : (s.setRsp v).iir = s.iir := rfl
@[simp] theorem State.setRsp_delay (s : State) (v : Word) : (s.setRsp v).delay = s.delay := rfl
@[simp] theorem State.setRsp_txf (s : State) (v : Word) : (s.setRsp v).txf = s.txf := rfl
@[simp] theorem State.setRsp_rxf (s : State) (v : Word) : (s.setRsp v).rxf = s.rxf := rfl
@[simp] theorem State.setRsp_dac (s : State) (v : Word) : (s.setRsp v).dac = s.dac := rfl
@[simp] theorem State.setRsp_rsp (s : State) (v : Word) : (s.setRsp v).rsp = v := rfl

@[simp] theorem State.setDirRev_cfg (s : State) (d : Direction) (r : Bool) : (s.setDirRev d r).cfg = s.cfg := rfl
@[simp] theorem State.setDirRev_inputs (s : State) (d : Direction) (r : Bool) : (s.setDirRev d r).inputs = s.inputs := rfl
@[simp] theorem State.setDirRev_mode (s : State) (d : Direction) (r : Bool) : (s.setDirRev d r).mode = s.mode := rfl
@[simp] theorem State.setDirRev_dir (s : State) (d : Direction) (r : Bool) : (s.setDirRev d r).dir = d := rfl
@[simp] theorem State.setDirRev_rev (s : State) (d : Direction) (r : Bool) : (s.setDirRev d r).rev = r := rfl
@[simp] theorem State.setDirRev_phase (s : State) (d : Direction) (r : Bool) : (s.setDirRev d r).phase = s.phase := rfl
@[simp] theorem State.setDirRev_tx (s : State) (d : Direction) (r : Bool) : (s.setDirRev d r).tx = s.tx := rfl
@[simp] theorem State.setDirRev_rx (s : State) (d : Direction) (r : Bool) : (s.setDirRev d r).rx = s.rx := rfl
@[simp] theorem State.setDirRev_iir (s : State) (d : Direction) (r : Bool) : (s.setDirRev d r).iir = s.iir := rfl
@[simp] theorem State.setDirRev_delay (s : State) (d : Direction) (r : Bool) : (s.setDirRev d r).delay = s.delay := rfl
@[simp] theorem State.setDirRev_txf (s : State) (d : Direction) (r : Bool) : (s.setDirRev d r).txf = s.txf := rfl
@[simp] theorem State.setDirRev_rxf (s : State) (d : Direction) (r : Bool) : (s.setDirRev d r).rxf = s.rxf := rfl
@[simp] theorem State.setDirRev_dac (s : State) (d : Direction) (r : Bool) : (s.setDirRev d r).dac = s.dac := rfl
@[simp] theorem State.setDirRev_rsp (s : State) (d : Direction) (r : Bool) : (s.setDirRev d r).rsp = s.rsp := rfl

@[simp] theorem State.resetWith_cfg (c : Cfg) : (State.resetWith c).cfg = c := rfl
@[simp] theorem State.resetWith_inputs (c : Cfg) : (State.resetWith c).inputs = [] := rfl
@[simp] theorem State.resetWith_mode (c : Cfg) : (State.resetWith c).mode = .command := rfl
@[simp] theorem State.resetWith_dir (c : Cfg) : (State.resetWith c).dir = .originating := rfl
@[simp] theorem State.resetWith_rev (c : Cfg) : (State.resetWith c).rev = false := rfl
@[simp] theorem State.resetWith_phase (c : Cfg) : (State.resetWith c).phase = 0 := rfl
@[simp] theorem State.resetWith_tx (c : Cfg) : (State.resetWith c).tx = TxRegs.reset := rfl
@[simp] theorem State.resetWith_rx (c : Cfg) : (State.resetWith c).rx = RxRegs.reset := rfl
@[simp] theorem State.resetWith_iir (c : Cfg) : (State.resetWith c).iir = IirTaps.zero := rfl
@[simp] theorem State.resetWith_delay (c : Cfg) : (State.resetWith c).delay = DelayLine.quiet c.tone1.qlen := rfl
@[simp] theorem State.resetWith_txf (c : Cfg) : (State.resetWith c).txf = Fifo.emptied := rfl
@[simp] theorem State.resetWith_rxf (c : Cfg) : (State.resetWith c).rxf = Fifo.emptied := rfl
@[simp] theorem State.resetWith_dac (c : Cfg) : (State.resetWith c).dac = bias := rfl
@[simp] theorem State.resetWith_rsp (c : Cfg) : (State.resetWith c).rsp = 0 := rfl

end Sys2Proof.Machine
end

