-- ==== Sys2Proof/Laws/Ops.lean ====
section
/-! SUPPORT. What each shared operation of the datapath can do, said once. -/

namespace Sys2Proof.Machine

open Sys2Proof

/-! ## The delay line -/

/-- A push drops the oldest sample and appends the new one (R132). -/
theorem DelayLine.push_toList (d : DelayLine) (a : Byte) : (d.push a).toList = d.toList.tail ++ [a] := by
  obtain ⟨o, n⟩ := d
  cases n <;> simp [DelayLine.push, DelayLine.toList]

/-- A push keeps the length (R19). -/
theorem DelayLine.push_length (d : DelayLine) (a : Byte) : (d.push a).toList.length = d.toList.length := by
  rw [DelayLine.push_toList]
  simp [DelayLine.toList]

/-- A quiet delay line is copies of the bias. -/
theorem DelayLine.quiet_toList (n : Nat) (h : 0 < n) : (DelayLine.quiet n).toList = List.replicate n bias := by
  obtain ⟨k, rfl⟩ : ∃ k, n = k + 1 := ⟨n - 1, by omega⟩
  simp [DelayLine.quiet, DelayLine.toList, List.replicate_succ]

/-! ## The gates and the transmit rules -/

/-- `txGate`, opened (R89). -/
theorem txGate_iff (s : State) : txGate s = true ↔ s.mode = .data ∧ s.txf.wr ≠ s.txf.rd := by
  simp [txGate, Fifo.empty]

/-- `rxGate`, opened (R90). -/
theorem rxGate_iff (s : State) : rxGate s = true ↔ s.mode = .data ∧ s.rxf.len s.cfg.cap ≠ s.cfg.cap := by
  simp [rxGate, Fifo.full]

/-- What taking a byte under `txGate` can do. -/
theorem txTake_cases (s : State) :
    (s.mode = .data ∧ s.txf.wr ≠ s.txf.rd ∧
      txTake s = some (Memory.read s.txf.buf (s.txf.rd % s.cfg.cap),
        s.setTxf { s.txf with rd := (s.txf.rd + 1) % (2 * s.cfg.cap) })) ∨
    (¬ (s.mode = .data ∧ s.txf.wr ≠ s.txf.rd) ∧ txTake s = none) := by
  by_cases h : txGate s = true
  · obtain ⟨hm, hne⟩ := (txGate_iff s).1 h
    rcases Fifo.dequeue_cases s.cfg.cap s.txf with ⟨he, _⟩ | ⟨_, hd⟩
    · exact absurd he hne
    · exact .inl ⟨hm, hne, by simp [txTake, h, hd]⟩
  · exact .inr ⟨fun hg => h ((txGate_iff s).2 hg), by simp [txTake, h]⟩

/-- A bit step is the rule of one of the six states (R111). -/
theorem bitStep_cases (s : State) :
    (s.tx.state = .wait ∧ bitStep s = txWait s) ∨ (s.tx.state = .preamble ∧ bitStep s = txPreamble s) ∨
    (s.tx.state = .startBit ∧ bitStep s = txStartBit s) ∨ (s.tx.state = .dataBit ∧ bitStep s = txDataBit s) ∨
    (s.tx.state = .stopBit ∧ bitStep s = txStopBit s) ∨ (s.tx.state = .trail ∧ bitStep s = txTrail s) := by
  cases h : s.tx.state <;> simp [bitStep, h]

/-- A rule of the TxFramer writes `tx`, `phase` and `TXF` only. -/
theorem txTake_frame (s s1 : State) (b : Byte) (h : txTake s = some (b, s1)) :
    ∃ q, s1 = s.setTxf q := by
  rcases txTake_cases s with ⟨_, _, ht⟩ | ⟨_, ht⟩
  · rw [ht] at h
    simp only [Option.some.injEq, Prod.mk.injEq] at h
    exact ⟨_, h.2.symm⟩
  · rw [ht] at h
    cases h

/-! ## Counters -/

@[simp] theorem shiftSymbol_newest (sr : BitVec 2) (sym : Bool) : (shiftSymbol sr sym).getLsbD 0 = sym := by
  revert sr sym
  decide

@[simp] theorem shiftSymbol_previous (sr : BitVec 2) (sym : Bool) :
    (shiftSymbol sr sym).getLsbD 1 = sr.getLsbD 0 := by
  revert sr sym
  decide

/-- The shift register shows a falling edge exactly when the symbol before was HIGH and this one is LOW. -/
theorem shiftSymbol_edge (sr : BitVec 2) (sym : Bool) :
    shiftSymbol sr sym = 0b10 ↔ sr.getLsbD 0 = true ∧ sym = false := by
  revert sr sym
  decide

/-- Where it fits, the counted sum is stored exactly. -/
theorem countSymbol_bitSum (sym : Bool) (s : State) (h : s.rx.bitSum.toNat < 65535) :
    (countSymbol sym s).bitSum.toNat = s.rx.bitSum.toNat + sym.toNat := by
  have : sym.toNat ≤ 1 := Bool.toNat_le sym
  simp only [countSymbol, nextSum, BitVec.toNat_ofNat]
  omega

/-- Where it fits, the counted clock is stored exactly. -/
theorem countSymbol_bitClock (sym : Bool) (s : State) (h : s.rx.bitClock.toNat < 65535) :
    (countSymbol sym s).bitClock.toNat = s.rx.bitClock.toNat + 1 := by
  simp only [countSymbol, nextClock, BitVec.toNat_ofNat]
  omega

/-! ## The sample table -/

/-- The ROM has 64 entries. -/
theorem waveQ_length : waveQ.length = 64 := rfl

/-- The ROM index never leaves the table (R32). -/
theorem quarterIndex_lt (idx : Byte) : quarterIndex idx < 64 := by
  unfold quarterIndex
  dsimp only
  split <;> omega

/-! ## The filter -/

/-- A recentred sample is in −128 .. 127 (R131). -/
theorem recentre_bounds (v : Byte) : -128 ≤ recentre v ∧ recentre v ≤ 127 := by
  have h : v.toNat < 256 := v.isLt
  have hb : bias.toNat = 128 := rfl
  unfold recentre
  omega

end Sys2Proof.Machine
end

