-- ==== Sys2Proof/Laws/PerInstr.lean ====
section
/-! SUPPORT. The family `EncodesOnItsPort`: an operation has a port word exactly when it is an operation of a
port, one lemma per constructor. -/

namespace Sys2Proof.Laws

/-- The encoder gives a word exactly to the operations that a port carries. -/
def EncodesOnItsPort.Statement (i : Instr) : Prop := (encode i).isSome = i.wf

theorem EncodesOnItsPort.nop : EncodesOnItsPort.Statement (.nop) := rfl
theorem EncodesOnItsPort.pushtx (v : Byte) : EncodesOnItsPort.Statement (.pushtx v) := rfl
theorem EncodesOnItsPort.poprx : EncodesOnItsPort.Statement (.poprx) := rfl
theorem EncodesOnItsPort.status : EncodesOnItsPort.Statement (.status) := rfl
theorem EncodesOnItsPort.txlen : EncodesOnItsPort.Statement (.txlen) := rfl
theorem EncodesOnItsPort.rxlen : EncodesOnItsPort.Statement (.rxlen) := rfl
theorem EncodesOnItsPort.setdir (d : Direction) (r : Bool) : EncodesOnItsPort.Statement (.setdir d r) := rfl
theorem EncodesOnItsPort.setline (b : LineMode) : EncodesOnItsPort.Statement (.setline b) := rfl
theorem EncodesOnItsPort.txcarrier (b : Bool) : EncodesOnItsPort.Statement (.txcarrier b) := rfl
theorem EncodesOnItsPort.rxcarrier (b : Bool) : EncodesOnItsPort.Statement (.rxcarrier b) := rfl
theorem EncodesOnItsPort.reservedA (low : BitVec 12) : EncodesOnItsPort.Statement (.reservedA low) := rfl
theorem EncodesOnItsPort.reservedB (low : BitVec 12) : EncodesOnItsPort.Statement (.reservedB low) := rfl
theorem EncodesOnItsPort.reservedC (low : BitVec 12) : EncodesOnItsPort.Statement (.reservedC low) := rfl
theorem EncodesOnItsPort.reservedD (low : BitVec 12) : EncodesOnItsPort.Statement (.reservedD low) := rfl
theorem EncodesOnItsPort.reservedE (low : BitVec 12) : EncodesOnItsPort.Statement (.reservedE low) := rfl
theorem EncodesOnItsPort.reservedF (low : BitVec 12) : EncodesOnItsPort.Statement (.reservedF low) := rfl
theorem EncodesOnItsPort.tick (adc : Byte) : EncodesOnItsPort.Statement (.tick adc) := rfl
theorem EncodesOnItsPort.txstep : EncodesOnItsPort.Statement (.txstep) := rfl
theorem EncodesOnItsPort.txstepWait : EncodesOnItsPort.Statement (.txstepWait) := rfl
theorem EncodesOnItsPort.txstepPreamble : EncodesOnItsPort.Statement (.txstepPreamble) := rfl
theorem EncodesOnItsPort.txstepStartBit : EncodesOnItsPort.Statement (.txstepStartBit) := rfl
theorem EncodesOnItsPort.txstepDataBit : EncodesOnItsPort.Statement (.txstepDataBit) := rfl
theorem EncodesOnItsPort.txstepStopBit : EncodesOnItsPort.Statement (.txstepStopBit) := rfl
theorem EncodesOnItsPort.txstepTrail : EncodesOnItsPort.Statement (.txstepTrail) := rfl
theorem EncodesOnItsPort.wave : EncodesOnItsPort.Statement (.wave) := rfl
theorem EncodesOnItsPort.demod (adc : Byte) : EncodesOnItsPort.Statement (.demod adc) := rfl
theorem EncodesOnItsPort.rxstep (sym : Bool) : EncodesOnItsPort.Statement (.rxstep sym) := rfl
theorem EncodesOnItsPort.rxstepCarrier (sym : Bool) : EncodesOnItsPort.Statement (.rxstepCarrier sym) := rfl
theorem EncodesOnItsPort.rxstepWait : EncodesOnItsPort.Statement (.rxstepWait) := rfl
theorem EncodesOnItsPort.rxstepPreamble (sym : Bool) : EncodesOnItsPort.Statement (.rxstepPreamble sym) := rfl
theorem EncodesOnItsPort.rxstepStartBit (sym : Bool) : EncodesOnItsPort.Statement (.rxstepStartBit sym) := rfl
theorem EncodesOnItsPort.rxstepDataBit (sym : Bool) : EncodesOnItsPort.Statement (.rxstepDataBit sym) := rfl
theorem EncodesOnItsPort.rxstepStopBit (sym : Bool) : EncodesOnItsPort.Statement (.rxstepStopBit sym) := rfl

end Sys2Proof.Laws
end

