-- ==== Sys2Proof/Laws/Step.lean ====
section
/-! SUPPORT. What one step can do, and how sequences of operations unfold. -/

namespace Sys2Proof.Machine

open Sys2Proof

/-- No operation stops: every operation answers a next state, from every state. -/
theorem exec_total (i : Instr) (s : State) : ∃ t, exec i s = .next t := by
  cases i with
  | poprx =>
    show ∃ t, execPoprx s = .next t
    unfold execPoprx
    split <;> exact ⟨_, rfl⟩
  | rxcarrier b => cases b <;> exact ⟨_, rfl⟩
  | _ => exact ⟨_, rfl⟩

/-- A word on a port runs its operation or answers ERR; it always answers a next state. -/
theorem runWord_total (w : PortWord) (s : State) : ∃ t, runWord w s = .next t := by
  unfold runWord
  split
  · exact exec_total _ _
  · exact ⟨_, rfl⟩

/-- What a step that answers a next state can have done. -/
theorem step_cases (s t : State) (h : step s = .next t) :
    (fetch s = .quiet t) ∨
    (∃ c s1, fetch s = .reset c s1 ∧ c.wf = true ∧ t = releaseReset c s1) ∨
    (∃ w s1, fetch s = .op w s1 ∧ s1.cfg.wf = true ∧ runWord w s1 = .next t) := by
  unfold step at h
  split at h
  · rename_i s1 hf
    cases h
    exact .inl hf
  · rename_i c s1 hf
    split at h
    · rename_i hc
      cases h
      exact .inr (.inl ⟨c, s1, hf, hc, rfl⟩)
    · cases h
  · rename_i w s1 hf
    split at h
    · rename_i hc
      exact .inr (.inr ⟨w, s1, hf, hc, h⟩)
    · cases h

/-- The state that taking an event leaves differs from the one before in `inputs` only. -/
theorem fetch_frame (s : State) :
    (∃ l, fetch s = .quiet (s.setInputs l)) ∨ (∃ c l, fetch s = .reset c (s.setInputs l)) ∨
    (∃ w l, fetch s = .op w (s.setInputs l)) := by
  unfold fetch
  split
  · rename_i h
    exact .inl ⟨[], by simp only [State.setInputs, ← h]⟩
  · split
    · exact .inr (.inl ⟨_, _, rfl⟩)
    · exact .inr (.inr ⟨_, _, rfl⟩)
    · exact .inr (.inr ⟨_, _, rfl⟩)
    · exact .inr (.inr ⟨_, _, rfl⟩)
    · exact .inl ⟨_, rfl⟩

/-- A presented word is what the next fetch takes. -/
theorem fetch_presentWord (w : PortWord) (s : State) : fetch (presentWord w s) = .op w s := by
  cases w <;> rfl

/-- Sequences of operations compose. -/
theorem execAll_append (is js : List Instr) (s : State) :
    execAll (is ++ js) s =
      match execAll is s with
      | .next t => execAll js t
      | .fault f => .fault f
      | .refused r => .refused r := by
  induction is generalizing s with
  | nil => rfl
  | cons i is ih =>
    obtain ⟨t, ht⟩ := exec_total i s
    simp only [List.cons_append, execAll, ht, ih]

/-- A sequence of operations always answers a next state. -/
theorem execAll_total (is : List Instr) (s : State) : ∃ t, execAll is s = .next t := by
  induction is generalizing s with
  | nil => exact ⟨s, rfl⟩
  | cons i is ih =>
    obtain ⟨t, ht⟩ := exec_total i s
    obtain ⟨u, hu⟩ := ih t
    exact ⟨u, by simp only [execAll, ht, hu]⟩

end Sys2Proof.Machine
end

