-- ==== Sys2Proof/Tests/Slice0.lean ====
section
/-! SUPPORT. Small tests: the encodings, one or two steps of each operation with results from the spec's examples and
vectors, the well-formedness checks, and a witness for the hypotheses of each statement. -/

namespace Sys2Proof.Tests

open Sys2Proof Sys2Proof.Machine

/-! ## Helpers -/

/-- The next state of an outcome. -/
def nextOf : Host.Outcome State Fault Refusal → Option State
  | .next s => some s
  | .fault _ => none
  | .refused _ => none

/-- The state after one operation. -/
def after (i : Instr) (s : State) : Option State := nextOf (exec i s)

/-- The state after one step on one port input. -/
def afterInput (p : PortInput) (s : State) : Option State := nextOf (step { s with inputs := [p] })

/-- A short configuration: `N` = 8, `HALF` = 4, `QUARTER` = 2, `EIGHTH` = 1, `CD_THRESH` = 4, `CAP` = 2. -/
def shortCfg : Cfg := { cfg0 with baud := 1200, cdTicks := 4, fifoLog2 := 1 }

/-- Reset under `CFG0`, in DATA mode. -/
def dataState : State := { State.reset with mode := .data }

/-- Reset under the short configuration, in DATA mode. -/
def shortState : State := { State.resetWith shortCfg with mode := .data }

/-- A FIFO that holds two bytes. -/
def twoBytes : Fifo := { buf := [(0, 0x41), (1, 0x42)], wr := 2, rd := 0 }

/-- DATA mode with two bytes to send. -/
def loaded : State := { dataState with txf := twoBytes }

/-- The transmit registers in a given state with a given byte and count. -/
def inTx (s : State) (st : TxState) (byte bits : BitVec 8) : State :=
  { s with tx := { s.tx with state := st, byte := byte, bits := bits } }

/-- The receive registers in a given state with given counts. -/
def inRx (s : State) (st : RxState) (sum clock : BitVec 16) : State :=
  { s with rx := { s.rx with state := st, carrier := true, bitSum := sum, bitClock := clock } }

/-! ## Encodings (R55, `95_test_vectors.md` section 2) -/

theorem test_decode_nop : decode (.command 0b0000000000000000) = .op .nop := by decide
theorem test_decode_pushtx : decode (.command 0b0001000001000001) = .op (.pushtx 0x41) := by decide
theorem test_decode_poprx : decode (.command 0b0010000000000000) = .op .poprx := by decide
theorem test_decode_status : decode (.command 0b0011000000000000) = .op .status := by decide
theorem test_decode_txlen : decode (.command 0b0100000000000000) = .op .txlen := by decide
theorem test_decode_rxlen : decode (.command 0b0101000000000000) = .op .rxlen := by decide
theorem test_decode_setdir_answ : decode (.command 0b0110000000000001) = .op (.setdir .answering false) := by decide
theorem test_decode_setdir_rev : decode (.command 0b0110000000000010) = .op (.setdir .originating true) := by decide
theorem test_decode_setline : decode (.command 0b0111000000000001) = .op (.setline .data) := by decide
theorem test_decode_txcarrier : decode (.command 0b1000000000000001) = .op (.txcarrier true) := by decide
theorem test_decode_rxcarrier : decode (.command 0b1001000000000001) = .op (.rxcarrier true) := by decide
theorem test_decode_reservedA : decode (.command 0b1010000000000000) = .op (.reservedA 0) := by decide
theorem test_decode_reservedB : decode (.command 0b1011000100100011) = .op (.reservedB 0x123) := by decide
theorem test_decode_reservedC : decode (.command 0b1100000000000001) = .op (.reservedC 1) := by decide
theorem test_decode_reservedD : decode (.command 0b1101100000000000) = .op (.reservedD 0x800) := by decide
theorem test_decode_reservedE : decode (.command 0b1110000000000000) = .op (.reservedE 0) := by decide
theorem test_decode_reservedF : decode (.command 0b1111111111111111) = .op (.reservedF 0xFFF) := by decide
theorem test_decode_tick : decode (.tick 0b11001000) = .op (.tick 200) := by decide

/-- The reserved words of opcodes 0 to 9 in `95_test_vectors.md` section 2. -/
theorem test_decode_reserved_operands :
    decode (.command 0x0001) = .reserved 0x0001 ∧ decode (.command 0x2001) = .reserved 0x2001 ∧
    decode (.command 0x3010) = .reserved 0x3010 ∧ decode (.command 0x40FF) = .reserved 0x40FF ∧
    decode (.command 0x5080) = .reserved 0x5080 ∧ decode (.command 0x1141) = .reserved 0x1141 ∧
    decode (.command 0x6004) = .reserved 0x6004 ∧ decode (.command 0x7002) = .reserved 0x7002 ∧
    decode (.command 0x8003) = .reserved 0x8003 ∧ decode (.command 0x90FF) = .reserved 0x90FF := by decide

theorem test_encode_setdir : encode (.setdir .answering true) = some (.command 0x6003) := by decide
theorem test_encode_pushtx : encode (.pushtx 0xFF) = some (.command 0x10FF) := by decide
theorem test_table_word_command : decodeTableWord 16 0x9001 = some (.rxcarrier true) := by decide
theorem test_table_word_tick : decodeTableWord 8 0x80 = some (.tick 128) := by decide
theorem test_table_word_reserved : decodeTableWord 16 0x7002 = none := by decide

/-- The step runs the presented word first after reset. -/
theorem test_fetch_word : (nextOf (step (State.reset.withFetchWord 16 0x1041))).map (·.rsp) = some 1 := by decide

/-! ## Well-formedness: an ill-formed term for each check -/

theorem test_wf_cfg0 : cfg0.wf = true := by decide
theorem test_wf_shortCfg : shortCfg.wf = true := by decide
theorem test_wf_suboperation : Instr.wf .txstep = false := by decide
theorem test_wf_rate_zero : Cfg.wf { cfg0 with sampleRate := 0 } = false := by decide
theorem test_wf_rate_width : Cfg.wf { cfg0 with sampleRate := 65536 } = false := by decide
theorem test_wf_baud_zero : Cfg.wf { cfg0 with baud := 0 } = false := by decide
theorem test_wf_baud_width : Cfg.wf { cfg0 with baud := 65536 } = false := by decide
theorem test_wf_dataBits_low : Cfg.wf { cfg0 with dataBits := 4 } = false := by decide
theorem test_wf_dataBits_high : Cfg.wf { cfg0 with dataBits := 9 } = false := by decide
theorem test_wf_carrierBits : Cfg.wf { cfg0 with carrierBits := 256 } = false := by decide
theorem test_wf_trailBits : Cfg.wf { cfg0 with trailBits := 255 } = false := by decide
theorem test_wf_cdTicks_zero : Cfg.wf { cfg0 with cdTicks := 0 } = false := by decide
theorem test_wf_cdTicks_width : Cfg.wf { cfg0 with cdTicks := 65536 } = false := by decide
theorem test_wf_fifoLog2_low : Cfg.wf { cfg0 with fifoLog2 := 0 } = false := by decide
theorem test_wf_fifoLog2_high : Cfg.wf { cfg0 with fifoLog2 := 15 } = false := by decide
theorem test_wf_bit_too_short : Cfg.wf { cfg0 with baud := 1201 } = false := by decide
theorem test_wf_step : Cfg.wf { cfg0 with tone0 := { cfg0.tone0 with spaceStep := 7304 } } = false := by decide
theorem test_wf_mark_step : Cfg.wf { cfg0 with tone1 := { cfg0.tone1 with markStep := 0 } } = false := by decide
theorem test_wf_frequency_width :
    Cfg.wf { cfg0 with tone0 := { cfg0.tone0 with spaceFreq := 65536 } } = false := by decide
theorem test_wf_tone_too_high :
    Cfg.wf { cfg0 with tone0 := { cfg0.tone0 with markFreq := 4800, markStep := 32768 } } = false := by decide
theorem test_wf_qlen_zero : Cfg.wf { cfg0 with tone1 := { cfg0.tone1 with qlen := 0 } } = false := by decide
theorem test_wf_qlen_high : Cfg.wf { cfg0 with tone0 := { cfg0.tone0 with qlen := 17 } } = false := by decide

/-! ## Functions on configuration values and samples (`95_test_vectors.md` section 3) -/

theorem test_stepOf : [stepOf 1070 9600, stepOf 300 9600, stepOf 4799 9600, stepOf 3 131072, stepOf 2225 8000] =
    [7305, 2048, 32761, 2, 18227] := by decide

theorem test_derived_constants :
    (cfg0.bitLen, cfg0.halfBit, cfg0.quarterBit, cfg0.eighthBit, cfg0.cap, cfg0.cdThresh) = (32, 16, 8, 4, 64, 60) ∧
    (cfg0.wmLow, cfg0.wmMed, cfg0.wmHigh) = (16, 32, 48) := by decide

theorem test_sample : [0, 1, 32, 61, 66, 70, 96, 127, 128, 129, 160, 189, 194, 200, 255].map sample =
    [128, 131, 218, 255, 255, 253, 216, 128, 128, 125, 38, 1, 1, 4, 128] := by decide

theorem test_lerp :
    [lerp 128 131 0, lerp 128 131 128, lerp 128 131 255, lerp 131 128 128, lerp 131 128 255, lerp 255 1 255,
      lerp 1 255 255, lerp 200 200 77] = [128, 129, 130, 129, 128, 1, 254, 200] := by decide

/-- `len` where `wr` has wrapped (R81's example). -/
theorem test_fifo_len : Fifo.len 4 { buf := [], wr := 1, rd := 6 } = 3 := by decide

/-- Steps 5 to 8 of `95_test_vectors.md` section 4. -/
theorem test_fifo_fill :
    Fifo.enqueueAll 4 Fifo.emptied [0x11, 0x22, 0x33, 0x44, 0x55] =
      ([true, true, true, true, false],
        { buf := [(0, 0x11), (1, 0x22), (2, 0x33), (3, 0x44)], wr := 4, rd := 0 }) := by decide

/-! ## Host commands -/

theorem test_nop : (after .nop { State.reset with rsp := 7 }).map (·.rsp) = some 0 := by decide

theorem test_pushtx : (after (.pushtx 0x41) State.reset).map (fun s => (s.rsp, s.txf)) =
    some (1, { buf := [(0, 0x41)], wr := 1, rd := 0 }) := by decide

theorem test_pushtx_full :
    (after (.pushtx 0x43) { shortState with txf := twoBytes }).map (fun s => (s.rsp, s.txf)) =
      some (0, twoBytes) := by decide

theorem test_poprx : (after .poprx { State.reset with rxf := twoBytes }).map (fun s => (s.rsp, s.rxf.rd)) =
    some (0x0141, 1) := by decide

theorem test_poprx_empty : (after .poprx { State.reset with rsp := 7 }).map (·.rsp) = some 0 := by decide

theorem test_status_reset : (after .status State.reset).map (·.rsp) = some 0x0140 := by decide

/-- P1 step 12: MODE, TXACTIVE, TXFULL, RXEMPTY, TXLOW, TXMED, TXHIGH. -/
theorem test_status_full :
    (after .status { shortState with txf := twoBytes, tx := { shortState.tx with active := true } }).map (·.rsp) =
      some 0x1D91 := by decide

theorem test_txlen : (after .txlen loaded).map (·.rsp) = some 2 := by decide
theorem test_rxlen : (after .rxlen { dataState with rxf := { twoBytes with rd := 1 } }).map (·.rsp) = some 1 := by
  decide

theorem test_setline : (after (.setline .data) State.reset).map (fun s => statusWord s) = some 0x0141 := by decide

/-- R165's example: an answerer's delay line has ten entries. -/
theorem test_setdir :
    (after (.setdir .answering false) (inRx dataState .dataBit 0 10)).map
      (fun s => (statusWord s, s.delay.toList.length, s.rx.bitClock, s.rx.state)) =
      some (0x0143, 10, 0, .carrier) := by decide

theorem test_txcarrier : (after (.txcarrier true) dataState).map (fun s => statusWord s) = some 0x0149 := by decide

theorem test_rxcarrier_on :
    (after (.rxcarrier true) { State.reset with rx := { RxRegs.reset with cdCount := 30 } }).map
      (fun s => (s.rx.state, s.rx.carrier, s.rx.cdCount)) = some (.wait, true, 0) := by decide

theorem test_rxcarrier_off :
    (after (.rxcarrier false)
      { inRx dataState .dataBit 3 9 with iir := { x0 := 1, x1 := 2, y0 := 3, y1 := 4 } }).map
      (fun s => (s.rx.state, s.rx.carrier, s.rx.bitSum, s.iir)) = some (.carrier, false, 0, IirTaps.zero) := by decide

theorem test_reservedA : (after (.reservedA 0) loaded).map (fun s => (s.rsp, s.txf)) = some (0x8000, twoBytes) := by
  decide
theorem test_reservedB : (after (.reservedB 0x123) loaded).map (·.rsp) = some 0x8000 := by decide
theorem test_reservedC : (after (.reservedC 1) loaded).map (·.rsp) = some 0x8000 := by decide
theorem test_reservedD : (after (.reservedD 1) loaded).map (·.rsp) = some 0x8000 := by decide
theorem test_reservedE : (after (.reservedE 1) loaded).map (·.rsp) = some 0x8000 := by decide
theorem test_reservedF : (after (.reservedF 0xFFF) loaded).map (·.rsp) = some 0x8000 := by decide
theorem test_reserved_operand_step :
    (afterInput { cmd := some 0x6004 } State.reset).map (fun s => (s.rsp, s.dir, s.rev)) =
      some (0x8000, .originating, false) := by decide

/-! ## TICK and its sub-operations -/

/-- R160's example: the state is the reset state except `tx.clk` = 1. -/
theorem test_tick_reset :
    after (.tick 128) State.reset = some { State.reset with tx := { TxRegs.reset with clk := 1 } } := by decide

/-- P1 step 9: the dequeue at the first boundary, and the phase after it. -/
theorem test_tick_dequeues :
    (after (.tick 128) loaded).map (fun s => (s.tx.byte, s.tx.state, s.tx.sym, s.txf.rd, s.phase, s.dac)) =
      some (0x41, .preamble, .mark, 1, 0x21DE, 128) := by decide

theorem test_txstep_wraps :
    (after .txstep { dataState with tx := { TxRegs.reset with clk := 31 } }).map (·.tx.clk) = some 0 := by decide

theorem test_txstepWait :
    (after .txstepWait loaded).map (fun s => (s.tx.byte, s.tx.bits, s.tx.active, s.tx.state, s.tx.sym)) =
      some (0x41, 0, true, .preamble, .mark) := by decide

/-- R206: an active framer keeps the tone. -/
theorem test_txstepWait_active :
    (after .txstepWait { State.reset with tx := { TxRegs.reset with active := true } }).map (·.tx.sym) =
      some .mark := by decide

theorem test_txstepPreamble :
    (after .txstepPreamble (inTx dataState .preamble 0x41 3)).map (fun s => (s.tx.state, s.tx.sym, s.tx.bits)) =
      some (.startBit, .space, 4) := by decide

theorem test_txstepPreamble_more :
    (after .txstepPreamble (inTx dataState .preamble 0x41 2)).map (fun s => (s.tx.state, s.tx.sym)) =
      some (.preamble, .mark) := by decide

theorem test_txstepStartBit :
    (after .txstepStartBit (inTx dataState .startBit 0x41 4)).map
      (fun s => (s.tx.sym, s.tx.byte, s.tx.bits, s.tx.state)) = some (.mark, 0x20, 1, .dataBit) := by decide

theorem test_txstepDataBit :
    (after .txstepDataBit (inTx dataState .dataBit 0x01 6)).map (fun s => (s.tx.sym, s.tx.byte, s.tx.bits)) =
      some (.mark, 0x00, 7) := by decide

theorem test_txstepDataBit_last :
    (after .txstepDataBit (inTx dataState .dataBit 0x00 8)).map (fun s => (s.tx.state, s.tx.sym)) =
      some (.stopBit, .mark) := by decide

theorem test_txstepStopBit :
    (after .txstepStopBit (inTx loaded .stopBit 0 8)).map (fun s => (s.tx.byte, s.tx.state, s.tx.sym, s.txf.rd)) =
      some (0x41, .startBit, .space, 1) := by decide

/-- Vector 6.4: with `backToBack` = 0 the framer trails although data waits. -/
theorem test_txstepStopBit_not_back_to_back :
    (after .txstepStopBit (inTx { loaded with cfg := { cfg0 with backToBack := false } } .stopBit 0 8)).map
      (fun s => (s.tx.state, s.tx.bits, s.txf.rd)) = some (.trail, 0, 0) := by decide

/-- Vector 6.1, tick 512: the threshold boundary goes silent in TRAIL. -/
theorem test_txstepTrail_threshold :
    (after .txstepTrail (inTx { dataState with phase := 5 } .trail 0 1)).map
      (fun s => (s.tx.state, s.tx.sym, s.tx.bits, s.phase)) = some (.trail, .none, 2, 0) := by decide

/-- Vector 6.7 (b): completion is tested before new data. -/
theorem test_txstepTrail_complete_first :
    (after .txstepTrail (inTx loaded .trail 0 2)).map (fun s => (s.tx.state, s.tx.sym, s.txf.rd)) =
      some (.wait, .none, 0) := by decide

/-- R77's example: the phase wraps. -/
theorem test_wave :
    (after .wave { State.reset with phase := 0xFF00, tx := { TxRegs.reset with sym := .mark } }).map (·.phase) =
      some 0x20DE := by decide

/-- R76's example. -/
theorem test_wave_dac : (after .wave { State.reset with phase := 0x21DE }).map (·.dac) = some 220 := by decide

/-- `95_test_vectors.md` section 8.1, tick 10. -/
theorem test_demod :
    (after (.demod 243) { State.reset with
      iir := { x0 := 0, x1 := 7938, y0 := 0, y1 := 7938 }, delay := { oldest := 156, newer := [10] } }).map
      (fun s => (s.iir, s.delay.toList)) = some ({ x0 := 7938, x1 := 3220, y0 := 7938, y1 := 15127 }, [10, 243]) := by
  decide

/-- `95_test_vectors.md` section 8.2: −7 halves to −4 on silence. -/
theorem test_demod_floor :
    (after (.demod 128) { State.reset with iir := { IirTaps.zero with y1 := -7 } }).map (·.iir.y1.toInt) =
      some (-4) := by decide

theorem test_rxstep :
    (after (.rxstep false) (inRx { dataState with rx := { RxRegs.reset with sr := 1 } } .wait 9 9)).map
      (fun s => (s.rx.sr, s.rx.state, s.rx.bitSum)) = some (2, .preamble, 0) := by decide

/-- R141: the 60th HIGH symbol declares carrier. -/
theorem test_rxstepCarrier :
    (after (.rxstepCarrier true) { State.reset with rx := { RxRegs.reset with cdCount := 59 } }).map
      (fun s => (s.rx.state, s.rx.carrier, s.rx.cdCount)) = some (.wait, true, 60) := by decide

theorem test_rxstepCarrier_low :
    (after (.rxstepCarrier false) { State.reset with rx := { RxRegs.reset with cdCount := 59 } }).map
      (fun s => (s.rx.state, s.rx.cdCount)) = some (.carrier, 0) := by decide

theorem test_rxstepWait :
    (after .rxstepWait { inRx dataState .wait 3 4 with rx := { (inRx dataState .wait 3 4).rx with sr := 2 } }).map
      (fun s => (s.rx.state, s.rx.bitClock)) = some (.preamble, 0) := by decide

/-- Vector 7.4: four HIGH of 16 are accepted, five rejected. -/
theorem test_rxstepPreamble_accepts :
    (after (.rxstepPreamble false) (inRx dataState .preamble 4 15)).map (·.rx.state) = some .startBit := by decide
theorem test_rxstepPreamble_rejects :
    (after (.rxstepPreamble true) (inRx dataState .preamble 4 15)).map (·.rx.state) = some .wait := by decide

/-- R144's example. -/
theorem test_rxstepStartBit_accepts :
    (after (.rxstepStartBit false) (inRx dataState .startBit 8 31)).map (fun s => (s.rx.state, s.rx.bitSum)) =
      some (.dataBit, 0) := by decide
theorem test_rxstepStartBit_rejects :
    (after (.rxstepStartBit true) (inRx dataState .startBit 8 31)).map (·.rx.state) = some .wait := by decide

/-- Vector 7.5: 17 of 32 decide 1, and a tie decides 0. -/
theorem test_rxstepDataBit :
    (after (.rxstepDataBit true) (inRx dataState .dataBit 16 31)).map (fun s => (s.rx.byte, s.rx.bits)) =
      some (0x80, 1) := by decide

/-- R146's example: the eighth bit. -/
theorem test_rxstepDataBit_last :
    (after (.rxstepDataBit false)
      { dataState with rx := { RxRegs.reset with state := .dataBit, bitClock := 31, byte := 0x82, bits := 7 } }).map
      (fun s => (s.rx.byte, s.rx.bits, s.rx.state, s.rx.bitClock)) = some (0x41, 8, .stopBit, 16) := by decide

/-- R148's example. -/
theorem test_rxstepStopBit :
    (after (.rxstepStopBit true)
      { dataState with rx := { RxRegs.reset with state := .stopBit, bitSum := 15, bitClock := 31, byte := 0x41 } }).map
      (fun s => (s.rx.state, s.rxf)) = some (.wait, { buf := [(0, 0x41)], wr := 1, rd := 0 }) := by decide

/-- Vector 7.5: a stop sum of 8 is not more than 8. -/
theorem test_rxstepStopBit_invalid :
    (after (.rxstepStopBit false) (inRx dataState .stopBit 8 31)).map (fun s => (s.rx.state, s.rxf)) =
      some (.wait, Fifo.emptied) := by decide

/-! ## The ports -/

/-- A strobe with a command: the TICK runs and the command stays to come (R188). -/
theorem test_strobe_and_command :
    (afterInput { adc := some 128, cmd := some 0x3000 } State.reset).map (fun s => (s.tx.clk, s.rsp, s.inputs)) =
      some (1, 0, [{ cmd := some 0x3000 }]) := by decide

/-- `rst` overrides a strobe and a command (R170). -/
theorem test_reset_overrides :
    afterInput { rst := some cfg0, adc := some 1, cmd := some 0x1041 } loaded = some State.reset := by decide

/-! ## Witnesses: the hypotheses of each statement hold together somewhere -/

theorem witness_DecodeAndEncodeAgree :
    Instr.wf (.pushtx 0xFF) = true ∧ decode (.command 0x6003) = .op (.setdir .answering true) := by decide

theorem witness_ReservedWords :
    (State.resetWith cfg0).cfg.wf = true ∧ ReservedByFields 0x6004 ∧ ¬ ReservedByFields 0x6003 ∧
    ReservedByFields 0xA000 ∧ ¬ ReservedByFields 0x9001 ∧ ReservedByFields 0x1100 ∧
    ∃ s : State, s.cfg.wf = true ∧ s.inputs = [{ cmd := some 0x6004 }] :=
  ⟨by decide, by decide, by decide, by decide, by decide, by decide,
    { State.reset with inputs := [{ cmd := some 0x6004 }] }, by decide, rfl⟩

theorem witness_StepRunsTheDecodedOperation :
    let s : State := { State.reset with inputs := inputOf (.tick 9) :: [{ cmd := some 0 }] }
    s.cfg.wf = true ∧ decode (.tick 9) = .op (.tick 9) ∧ s.inputs = inputOf (.tick 9) :: [{ cmd := some 0 }] := by
  decide

theorem witness_StrobeWithCommand :
    let s : State := { State.reset with inputs := [{ adc := some 1, cmd := some 0x2000 }] }
    s.cfg.wf = true ∧ s.inputs = { adc := some 1, cmd := some 0x2000 } :: [] ∧
    decode (.command 0x2000) = .op .poprx := by decide

theorem witness_ResetPin :
    let s : State := { loaded with inputs := [{ rst := some shortCfg, adc := some 1, cmd := some 0x2000 }] }
    shortCfg.wf = true ∧ s.inputs = { rst := some shortCfg, adc := some 1, cmd := some 0x2000 } :: [] := by decide

theorem witness_QuietPorts :
    State.reset.inputs = [] ∧ ({ State.reset with inputs := [{}] } : State).inputs = {} :: [] := by decide

theorem witness_IllFormed :
    let c : Cfg := { cfg0 with trailBits := 255 }
    let s : State := { State.reset with cfg := c, inputs := [inputOf (.command 0)] }
    let u : State := { State.reset with inputs := [{ rst := some c }] }
    s.cfg.wf = false ∧ s.inputs = inputOf (.command 0) :: [] ∧ u.inputs = { rst := some c } :: [] := by decide

theorem witness_invariant_at_reset : Inv State.reset := by decide

theorem witness_invariant_short : Inv shortState := by decide

theorem witness_EveryStepKeeps :
    Inv { shortState with inputs := [{ cmd := some 0x1041 }] } ∧
    step { shortState with inputs := [{ cmd := some 0x1041 }] } =
      .next { shortState with txf := { buf := [(0, 0x41)], wr := 1, rd := 0 }, rsp := 1 } := ⟨by decide, by rfl⟩

theorem witness_NoRunEverStops : Inv State.reset ∧ InputsWf State.reset :=
  ⟨by decide, fun p hp => by cases hp⟩

theorem witness_RingRefinesQueue :
    twoBytes.Inv 2 ∧ 0 < 2 ∧ twoBytes.full 2 = true ∧ twoBytes.items 2 = [0x41, 0x42] ∧
    twoBytes.Inv 3 ∧ twoBytes.full 3 = false ∧ Fifo.emptied.Inv 1 ∧ Fifo.emptied.items 1 = [] := by decide

theorem witness_FifoFillsAndDrains :
    let q : Fifo := { buf := [], wr := 3, rd := 3 }
    q.Inv 2 ∧ 0 < 2 ∧ q.empty = true ∧ ([1, 0] : List Byte).length = 2 := by decide

theorem witness_Pushtx :
    (twoBytes.held 2 = 2) ∧ (twoBytes.held 4 ≠ 4 ∧ Memory.wf twoBytes.buf = true) := by decide

theorem witness_Poprx : Fifo.emptied.wr = Fifo.emptied.rd ∧ twoBytes.wr ≠ twoBytes.rd := by decide

theorem witness_Setdir : State.reset.cfg.wf = true := by decide

theorem witness_TickHalves :
    let s : State := State.reset
    let u : State := { State.reset with rx := { RxRegs.reset with sr := 3 } }
    let v : State := { State.reset with phase := 9 }
    (∃ s' u', exec (.tick 1) s = .next s' ∧ exec (.tick 2) u = .next u') ∧
    s.cfg = u.cfg ∧ s.mode = u.mode ∧ s.dir = u.dir ∧ s.rev = u.rev ∧
    s.tx = u.tx ∧ s.phase = u.phase ∧ s.txf = u.txf ∧
    s.cfg = v.cfg ∧ s.mode = v.mode ∧ s.dir = v.dir ∧ s.rev = v.rev ∧
    s.rx = v.rx ∧ s.iir = v.iir ∧ s.delay = v.delay ∧ s.rxf = v.rxf :=
  ⟨⟨_, _, rfl, rfl⟩, rfl, rfl, rfl, rfl, rfl, rfl, rfl, rfl, rfl, rfl, rfl, rfl, rfl, rfl, rfl⟩

theorem witness_Txstep : State.reset.tx.clk = 0 ∧ (inTx dataState .wait 0 0).tx.clk = 0 ∧
    ({ State.reset with tx := { TxRegs.reset with clk := 31 } } : State).tx.clk ≠ 0 := by decide

theorem witness_TxWait :
    (loaded.mode = .data ∧ loaded.txf.wr ≠ loaded.txf.rd) ∧
    ¬ (dataState.mode = .data ∧ dataState.txf.wr ≠ dataState.txf.rd) ∧
    dataState.tx.carrier = false ∧ dataState.tx.active = false ∧
    (let u : State := { State.reset with tx := { TxRegs.reset with active := true } }
     ¬ (u.mode = .data ∧ u.txf.wr ≠ u.txf.rd) ∧ (u.tx.carrier = true ∨ u.tx.active = true)) := by decide

theorem witness_TxPreamble :
    let s := inTx dataState .preamble 0x41 3
    let u := inTx dataState .preamble 0x41 2
    (s.tx.bits.toNat < 255 ∧ s.cfg.carrierBits ≤ s.tx.bits.toNat + 1) ∧
    (u.tx.bits.toNat < 255 ∧ u.tx.carrier = false ∧ u.tx.bits.toNat + 1 < u.cfg.carrierBits) := by decide

theorem witness_TxDataBit :
    let s := inTx dataState .dataBit 0 8
    let u := inTx dataState .dataBit 0 7
    s.cfg.dataBits ≤ s.tx.bits.toNat ∧ u.tx.bits.toNat < u.cfg.dataBits := by decide

theorem witness_TxStopBit :
    (loaded.cfg.backToBack = true ∧ loaded.mode = .data ∧ loaded.txf.wr ≠ loaded.txf.rd) ∧
    ¬ (dataState.cfg.backToBack = true ∧ dataState.mode = .data ∧ dataState.txf.wr ≠ dataState.txf.rd) := by decide

/-- The counts 1, 2 and 3 around the threshold 2 of `CFG0`, with and without data and carrier. -/
theorem witness_TxTrail :
    let at1 := inTx dataState .trail 0 0
    let at2 := inTx dataState .trail 0 1
    let at3 := inTx dataState .trail 0 2
    let carrier3 : State := { at3 with tx := { at3.tx with carrier := true } }
    let data1 := inTx loaded .trail 0 1
    let carrier2 : State := { at2 with tx := { at2.tx with carrier := true } }
    (at3.tx.bits.toNat < 255 ∧ at3.cfg.trailBits < at3.tx.bits.toNat + 1 ∧ at3.tx.carrier = false) ∧
    (carrier3.tx.bits.toNat < 255 ∧ carrier3.cfg.trailBits < carrier3.tx.bits.toNat + 1 ∧
      carrier3.tx.carrier = true) ∧
    (data1.tx.bits.toNat + 1 ≤ data1.cfg.trailBits ∧ (data1.mode = .data ∧ data1.txf.wr ≠ data1.txf.rd)) ∧
    (at2.tx.bits.toNat + 1 = at2.cfg.trailBits ∧ ¬ (at2.mode = .data ∧ at2.txf.wr ≠ at2.txf.rd) ∧
      at2.tx.carrier = false) ∧
    (at1.tx.bits.toNat + 1 ≤ at1.cfg.trailBits ∧ ¬ (at1.mode = .data ∧ at1.txf.wr ≠ at1.txf.rd) ∧
      at1.tx.bits.toNat + 1 ≠ at1.cfg.trailBits) ∧
    (carrier2.tx.bits.toNat + 1 ≤ carrier2.cfg.trailBits ∧ carrier2.tx.carrier = true) := by decide

theorem witness_TxBitGrid :
    let is : List Instr := [.tick 1, .pushtx 2, .setdir .answering true, .tick 3]
    shortState.cfg.wf = true ∧ shortState.tx.clk.toNat < shortState.cfg.bitLen ∧ (∀ i ∈ is, i.wf = true) := by decide

theorem witness_TxStateChanges :
    let s : State := { loaded with inputs := [{ adc := some 1 }] }
    s.inputs = { adc := some 1 } :: [] ∧ ({ adc := some 1 } : PortInput).rst = none ∧
    ∃ t, step s = .next t ∧ t.tx.state ≠ s.tx.state :=
  ⟨rfl, rfl, _, rfl, by decide⟩

/-- The first tick of a start bit under the short configuration. -/
def startOfFrame : State :=
  { shortState with tx := { TxRegs.reset with state := .startBit, sym := .space, clk := 1, byte := 0x41, active := true } }

/-- The start, the last tick of the start bit, both ends of the data bits and of the stop bit. -/
theorem witness_TxFrame :
    (startOfFrame.cfg.wf = true ∧ startOfFrame.tx.state = .startBit ∧ startOfFrame.tx.sym = .space ∧
      startOfFrame.tx.clk = 1) ∧
    ∀ n ∈ [0, 7, 8, 71, 72, 79],
      (∀ i ∈ (Instr.setline .command :: List.replicate n (.tick 128)), i.wf = true) ∧
      tickCount (.setline .command :: List.replicate n (.tick 128)) = n ∧
      n + 1 ≤ (startOfFrame.cfg.dataBits + 2) * startOfFrame.cfg.bitLen := by decide

theorem witness_TxPreambleLength :
    loaded.cfg.wf = true ∧ loaded.tx.state = .wait ∧ loaded.tx.clk = 0 ∧ loaded.tx.carrier = false ∧
    loaded.mode = .data ∧ loaded.txf.wr ≠ loaded.txf.rd ∧ ([128] : List Byte) ≠ [] ∧
    (([128] : List Byte).length - 1) / loaded.cfg.bitLen < max 1 loaded.cfg.carrierBits ∧
    (let s : State := { shortState with cfg := { shortCfg with carrierBits := 0 }, txf := twoBytes }
     s.cfg.wf = true ∧ s.tx.state = .wait ∧ s.tx.clk = 0 ∧ s.tx.carrier = false ∧ s.mode = .data ∧
     s.txf.wr ≠ s.txf.rd ∧
     ((List.replicate 9 (128 : Byte)).length - 1) / s.cfg.bitLen = max 1 s.cfg.carrierBits) := by decide

/-- The boundary at the end of a stop bit, with nothing more to send. -/
def endOfFrame : State :=
  { shortState with tx := { TxRegs.reset with state := .stopBit, sym := .mark, active := true, bits := 8 } }

theorem witness_TxTrailThenSilence :
    endOfFrame.cfg.wf = true ∧ endOfFrame.tx.state = .stopBit ∧ endOfFrame.tx.clk = 0 ∧
    endOfFrame.tx.carrier = false ∧ endOfFrame.tx.active = true ∧
    (endOfFrame.mode = .command ∨ endOfFrame.txf.wr = endOfFrame.txf.rd) ∧
    (([128] : List Byte).length - 1) / endOfFrame.cfg.bitLen < max 1 endOfFrame.cfg.trailBits ∧
    max 1 endOfFrame.cfg.trailBits ≤ ((List.replicate 17 (128 : Byte)).length - 1) / endOfFrame.cfg.bitLen := by decide

theorem witness_ActiveOutlives :
    let s : State := { State.reset with tx := { TxRegs.reset with active := true, sym := .mark } }
    s.tx.state = .wait ∧ s.tx.active = true ∧ s.tx.sym = .mark ∧ (s.mode = .command ∨ s.txf.wr = s.txf.rd) := by decide

theorem witness_Sample : (127 : Byte).toNat < 128 ∧ 128 ≤ (128 : Byte).toNat := by decide

theorem witness_Lerp : (1 : Byte) < 255 ∧ (3 : Byte) ≤ 255 ∧ (1 : Byte) ≤ 255 := by decide

theorem witness_StepOf : 0 < 9600 := by decide

theorem witness_ResetIsSilent : shortCfg.wf = true := by decide

theorem witness_FilterRange :
    (∃ t, exec (.demod 128) State.reset = .next t) ∧ State.reset.iir.x1 = 0 ∧
    (let s : State := { State.reset with iir := { x0 := 0, x1 := 0x4000, y0 := 0, y1 := 0x10000 } }
     (-16256 ≤ s.iir.x1.toInt) ∧ s.iir.x1.toInt ≤ 16384 ∧ -65536 ≤ s.iir.y1.toInt ∧ s.iir.y1.toInt ≤ 65536) ∧
    (0 < (7 : BitVec 18).toInt ∧ (0 : BitVec 18).toInt = 0 ∧ (-7 : BitVec 18).toInt < 0 ∧
      (-1 : BitVec 18).toInt = -1) :=
  ⟨⟨_, rfl⟩, rfl, by decide, by decide⟩

theorem witness_RxCarrier :
    let s : State := { State.reset with rx := { RxRegs.reset with cdCount := 58 } }
    let u : State := { State.reset with rx := { RxRegs.reset with cdCount := 59 } }
    s.rx.cdCount.toNat < 65535 ∧ (59 : BitVec 16).toNat < s.cfg.cdTicks - s.cfg.cdTicks / 16 ∧
    u.rx.cdCount.toNat < 65535 ∧ u.cfg.cdTicks - u.cfg.cdTicks / 16 ≤ (60 : BitVec 16).toNat := by decide

theorem witness_RxWait :
    ({ State.reset with rx := { RxRegs.reset with sr := 2 } } : State).rx.sr = 0b10 ∧
    State.reset.rx.sr ≠ 0b10 := by decide

/-- The half bit is judged at clock 16 with sums 4 and 5, the full bit at clock 32 with sums 8 and 9. -/
theorem witness_RxStartBit :
    (inRx dataState .preamble 4 15).rx.bitSum.toNat < 65535 ∧ (inRx dataState .preamble 4 15).rx.bitClock.toNat < 65535 ∧
    15 < cfg0.bitLen / 2 ∧ cfg0.bitLen / 2 ≤ 16 ∧ 4 ≤ cfg0.bitLen / 8 ∧ cfg0.bitLen / 8 < 5 ∧
    31 < cfg0.bitLen ∧ cfg0.bitLen ≤ 32 ∧ 8 ≤ cfg0.bitLen / 4 ∧ cfg0.bitLen / 4 < 9 := by decide

theorem witness_RxDataBit :
    let s := inRx dataState .dataBit 16 31
    s.rx.bitSum.toNat < 65535 ∧ s.rx.bitClock.toNat < 65535 ∧ s.rx.bits.toNat < 15 ∧ s.cfg.bitLen < 65536 ∧
    s.cfg.bitLen ≤ (32 : BitVec 16).toNat ∧ (31 : BitVec 16).toNat < s.cfg.bitLen ∧
    s.cfg.dataBits ≤ (8 : BitVec 4).toNat ∧ (7 : BitVec 4).toNat < s.cfg.dataBits := by decide

theorem witness_RxStopBit :
    let s := inRx dataState .stopBit 8 31
    s.rx.bitSum.toNat < 65535 ∧ s.rx.bitClock.toNat < 65535 ∧ Memory.wf s.rxf.buf = true ∧
    (31 : BitVec 16).toNat < s.cfg.bitLen ∧ s.cfg.bitLen ≤ (32 : BitVec 16).toNat ∧
    (s.cfg.bitLen / 4 < (9 : BitVec 16).toNat ∧ s.mode = .data ∧ s.rxf.held s.cfg.cap ≠ s.cfg.cap) ∧
    ¬ (s.cfg.bitLen / 4 < (8 : BitVec 16).toNat ∧ s.mode = .data ∧ s.rxf.held s.cfg.cap ≠ s.cfg.cap) := by decide

theorem witness_CarrierIsDeclared :
    shortState.cfg.wf = true ∧ shortState.rx.state = .carrier ∧ shortState.rx.cdCount = 0 ∧
    3 < shortState.cfg.cdTicks - shortState.cfg.cdTicks / 16 ∧
    shortState.cfg.cdTicks - shortState.cfg.cdTicks / 16 ≤ 4 := by decide

/-- The receive framer in WAIT after a HIGH symbol. -/
def listening : State :=
  { shortState with rx := { RxRegs.reset with state := .wait, carrier := true, sr := 3 } }

theorem witness_NoisyStartBit :
    let accepted : List Bool := [true, false, false, false]
    let rejected : List Bool := [true, true, false, false]
    listening.cfg.wf = true ∧ listening.rx.state = .wait ∧ listening.rx.sr.getLsbD 0 = true ∧
    accepted.length = listening.cfg.bitLen / 2 ∧ ¬ listening.cfg.bitLen / 8 < accepted.count true ∧
    rejected.length = listening.cfg.bitLen / 2 ∧ listening.cfg.bitLen / 8 < rejected.count true := by decide

theorem witness_FramesAreReceived :
    listening.cfg.wf = true ∧ listening.rx.state = .wait ∧ listening.rx.sr.getLsbD 0 = true ∧
    listening.mode = .data ∧ listening.rxf.Inv listening.cfg.cap ∧
    listening.rxf.len listening.cfg.cap + ([0x41, 0x42] : List Byte).length ≤ listening.cfg.cap := by decide

theorem witness_AgentsKeepTheirRights :
    Instr.wf (.tick 1) = true ∧ Instr.wf (.setdir .answering true) = true ∧ isTick (.tick 1) = true ∧
    isTick (.setdir .answering true) = false ∧ (∃ t, exec (.tick 1) State.reset = .next t) ∧
    ∃ t, exec (.setdir .answering true) State.reset = .next t :=
  ⟨rfl, rfl, rfl, rfl, ⟨_, rfl⟩, ⟨_, rfl⟩⟩

theorem witness_ControlBits :
    (∃ t, exec (.setline .data) State.reset = .next t ∧ t.mode ≠ State.reset.mode) ∧
    (∃ t, exec (.setdir .answering true) State.reset = .next t ∧ t.dir ≠ State.reset.dir) ∧
    (∃ t, exec (.txcarrier true) State.reset = .next t ∧ t.tx.carrier ≠ State.reset.tx.carrier) ∧
    (∃ t, exec .txstepWait loaded = .next t ∧ loaded.tx.active = false ∧ t.tx.active = true) ∧
    (∃ t, exec (.rxcarrier true) State.reset = .next t ∧ State.reset.rx.carrier = false ∧ t.rx.carrier = true) ∧
    (∃ t, exec (.rxcarrier false) listening = .next t ∧ listening.rx.carrier = true ∧ t.rx.carrier = false) :=
  ⟨⟨_, rfl, by decide⟩, ⟨_, rfl, by decide⟩, ⟨_, rfl, by decide⟩, ⟨_, rfl, by decide, rfl⟩, ⟨_, rfl, by decide, rfl⟩,
    ⟨_, rfl, by decide, rfl⟩⟩

/-- `tx.active` turned OFF by TXSTEP.TRAIL, and `rx.carrier` turned ON by RXSTEP.CARRIER at the threshold: the other
directions of `ControlBitsChangeOnlyByTheirWriters`. -/
theorem witness_ControlBits_by_ticks :
    let s := { inTx shortState .trail 0 2 with
      tx := { (inTx shortState .trail 0 2).tx with active := true }, rx := { shortState.rx with cdCount := 3 } }
    (∃ t, exec .txstepTrail s = .next t ∧ s.tx.active = true ∧ t.tx.active = false) ∧
    (∃ t, exec (.rxstepCarrier true) s = .next t ∧ s.rx.carrier = false ∧ t.rx.carrier = true) :=
  ⟨⟨_, rfl, by decide, by decide⟩, ⟨_, rfl, by decide, by decide⟩⟩

theorem witness_TicksKeepTheCarrier : listening.rx.carrier = true ∧ listening.rx.state ≠ .carrier := by decide

end Sys2Proof.Tests
end

section
/-! SUPPORT. The WaveTable (`40_wavetable.md`): `StepOf`, the operands of WAVE, the quarter-wave symmetries of `sample`
and the integer bounds behind `lerp`; then the obligations of this family. -/

namespace Sys2Proof.Machine

open Sys2Proof

/-! ## StepOf (R71) -/

/-- `StepOf` with the structural constants `PLEN` and `F` put in. -/
theorem stepOf_eq_div (f r : Nat) : stepOf f r = (131072 * f + r) / (2 * r) := rfl

/-- The two inequalities that fix a quotient rounded to nearest with ties up. -/
theorem stepOf_bounds (f r : Nat) (hr : 0 < r) :
    2 * r * stepOf f r ≤ 131072 * f + r ∧ 131072 * f + r < 2 * r * (stepOf f r + 1) := by
  rw [stepOf_eq_div]
  exact ⟨Nat.mul_div_le _ _, Nat.lt_mul_div_succ _ (by omega)⟩

/-- Settles O42: the two inequalities are those of the floor in R71; the rest is evaluation. -/
theorem stepOfRoundsToNearest : Obligations.StepOfRoundsToNearest :=
  ⟨stepOf_bounds, by decide, by decide, by decide, by decide, by decide, by decide⟩

/-! ## WAVE (R76, R77, R101, R102) -/

/-- `dir` and `rev` bind `tone[0]` to the transmitter exactly when they agree. -/
theorem txPair_eq_ite (s : State) :
    txPair s = if (s.dir = .answering ↔ s.rev = true) then s.cfg.tone0 else s.cfg.tone1 := by
  unfold txPair pairSel
  cases s.dir <;> cases s.rev <;> rfl

/-- The step of a symbol, as one choice inside the pair of the transmitter. -/
theorem stepFor_eq_match (s : State) (sym : TxSym) :
    stepFor s sym =
      match sym with | .space => (txPair s).spaceStep | .mark => (txPair s).markStep | .none => 0 := by
  cases sym <;> rfl

/-- `phase[15:8]` is the phase divided by `2^F`. -/
theorem phase_high_byte (p : BitVec 16) : p.extractLsb' 8 8 = BitVec.ofNat 8 (p.toNat / 256) := by
  rw [BitVec.extractLsb', Nat.shiftRight_eq_div_pow]

/-- The phase accumulator adds modulo `2^16`. -/
theorem phase_add (p q : BitVec 16) : p + q = BitVec.ofNat 16 ((p.toNat + q.toNat) % 65536) := by
  apply BitVec.eq_of_toNat_eq
  simp

/-- WAVE as one update of the state: `dac` and `phase` only. -/
theorem exec_wave (s : State) :
    exec .wave s = .next { s with
      dac := sample (s.phase.extractLsb' 8 8), phase := s.phase + stepFor s s.tx.sym } := rfl

/-- Settles O39, with the pair and the step that the model's `txPair` and `stepFor` give. -/
theorem waveDrivesAndAdvances : Obligations.WaveDrivesAndAdvances := by
  intro s
  refine ⟨txPair s, stepFor s s.tx.sym, txPair_eq_ite s, stepFor_eq_match s s.tx.sym, ?_⟩
  rw [exec_wave, phase_high_byte, phase_add]

/-! ## sample (R72 to R74) -/

/-- Every ROM entry is on the upper side of the bias. -/
theorem waveQ_ge_bias : ∀ v ∈ waveQ, 128 ≤ v.toNat := by decide

/-- What the ROM answers at the position of a table index. -/
theorem waveQ_getD_quarterIndex_ge (idx : Byte) : 128 ≤ (waveQ.getD (quarterIndex idx) bias).toNat := by
  have hlt : quarterIndex idx < waveQ.length := quarterIndex_lt idx
  rw [List.getD_eq_getElem _ _ hlt]
  exact waveQ_ge_bias _ (List.getElem_mem hlt)

/-- The second quarter mirrors the first. -/
theorem quarterIndex_mirror (idx : Byte) (h : idx.toNat < 128) : quarterIndex (127 - idx) = quarterIndex idx := by
  have hsub : (127 - idx).toNat = 127 - idx.toNat := by bv_omega
  simp only [quarterIndex, hsub]
  split <;> split <;> omega

/-- An index of the second half period, taken back by `HALFP`. -/
theorem toNat_sub_half (idx : Byte) (h : 128 ≤ idx.toNat) : (idx - 128).toNat = idx.toNat - 128 :=
  BitVec.toNat_sub_of_le (BitVec.le_def.2 h)

/-- The second half period reads the same positions as the first. -/
theorem quarterIndex_sub_half (idx : Byte) (h : 128 ≤ idx.toNat) : quarterIndex (idx - 128) = quarterIndex idx := by
  have hmod : (idx.toNat - 128) % 128 = idx.toNat % 128 := by omega
  simp only [quarterIndex, toNat_sub_half idx h, hmod]

/-- In the first half period `sample` is the ROM entry. -/
theorem sample_of_lt (idx : Byte) (h : idx.toNat < 128) : sample idx = waveQ.getD (quarterIndex idx) bias := by
  simp only [sample, if_neg (Nat.not_le.2 h)]

/-- In the second half period `sample` is the ROM entry inverted around the bias. -/
theorem sample_toNat_of_ge (idx : Byte) (h : 128 ≤ idx.toNat) :
    (sample idx).toNat = 256 - (waveQ.getD (quarterIndex idx) bias).toNat := by
  have hge := waveQ_getD_quarterIndex_ge idx
  have hbias : 2 * bias.toNat = 256 := rfl
  simp only [sample, if_pos h, BitVec.toNat_ofNat, hbias]
  omega

/-- R74 (a). -/
theorem sample_mirror (idx : Byte) (h : idx.toNat < 128) : sample idx = sample (127 - idx) := by
  have hsub : (127 - idx).toNat < 128 := by bv_omega
  rw [sample_of_lt idx h, sample_of_lt _ hsub, quarterIndex_mirror idx h]

/-- R74 (b). -/
theorem sample_invert (idx : Byte) (h : 128 ≤ idx.toNat) :
    (sample idx).toNat = 256 - (sample (idx - 128)).toNat := by
  have hsub : (idx - 128).toNat < 128 := by
    have := toNat_sub_half idx h
    omega
  rw [sample_toNat_of_ge idx h, sample_of_lt _ hsub, quarterIndex_sub_half idx h]

/-- `sample` never reaches 0 (R73): above the bias in the first half, 256 minus a byte in the second. -/
theorem sample_pos (idx : Byte) : 1 ≤ (sample idx).toNat := by
  by_cases h : idx.toNat < 128
  · rw [sample_of_lt idx h]
    exact Nat.le_trans (by decide) (waveQ_getD_quarterIndex_ge idx)
  · rw [sample_toNat_of_ge idx (Nat.not_lt.1 h)]
    omega

/-- Settles O40: the symmetries follow from the table position; the literal values are evaluated. -/
theorem sampleIsSymmetric : Obligations.SampleIsSymmetric :=
  ⟨sample_mirror, sample_invert, sample_pos, by decide, by decide, by decide, by decide, by decide, by decide,
    by decide⟩

/-! ## lerp (R75) -/

/-- A positive difference scaled by the fraction `t / 256` and floored stays below the difference. -/
theorem scaled_bounds_of_pos {d : Int} (t : Byte) (hd : 0 < d) : 0 ≤ d * t.toNat / 256 ∧ d * t.toNat / 256 < d := by
  have ht : (t.toNat : Int) < 256 := Int.ofNat_lt.2 t.isLt
  have hlo : 0 ≤ d * t.toNat := mul_nonneg hd.le (Int.natCast_nonneg _)
  have hhi : d * t.toNat < d * 256 := mul_lt_mul_of_pos_left ht hd
  omega

/-- A difference at most 0, scaled by the fraction `t / 256` and floored, stays between itself and 0. -/
theorem scaled_bounds_of_nonpos {d : Int} (t : Byte) (hd : d ≤ 0) : d ≤ d * t.toNat / 256 ∧ d * t.toNat / 256 ≤ 0 := by
  have ht : (t.toNat : Int) < 256 := Int.ofNat_lt.2 t.isLt
  have hhi : d * t.toNat ≤ 0 := mul_nonpos_of_nonpos_of_nonneg hd (Int.natCast_nonneg _)
  have hlo : d * 256 ≤ d * t.toNat := mul_le_mul_of_nonpos_left ht.le hd
  omega

/-- The 8 bits of the result lose nothing: the formula's value lies between the end points. -/
theorem lerp_toNat (v0 v1 t : Byte) :
    ((lerp v0 v1 t).toNat : Int) = (v0.toNat : Int) + (((v1.toNat : Int) - v0.toNat) * t.toNat) / 256 := by
  have h0 := v0.isLt
  have h1 := v1.isLt
  rw [lerp, BitVec.toNat_ofInt]
  rcases Nat.lt_or_ge v0.toNat v1.toNat with h | h
  · have := scaled_bounds_of_pos t (d := v1.toNat - v0.toNat) (by omega)
    omega
  · have := scaled_bounds_of_nonpos t (d := v1.toNat - v0.toNat) (by omega)
    omega

/-- At the fraction 0 `lerp` is its first end point. -/
theorem lerp_zero (v0 v1 : Byte) : lerp v0 v1 0 = v0 := by
  have h := lerp_toNat v0 v1 0
  apply BitVec.eq_of_toNat_eq
  simpa using h

/-- Between equal end points `lerp` does not move. -/
theorem lerp_self (v t : Byte) : lerp v v t = v := by
  have h := lerp_toNat v v t
  apply BitVec.eq_of_toNat_eq
  simpa using h

/-- Rising end points: `lerp` stays in `[v0, v1)`. -/
theorem lerp_mem_of_lt (v0 v1 t : Byte) (h : v0 < v1) : v0 ≤ lerp v0 v1 t ∧ lerp v0 v1 t < v1 := by
  rw [BitVec.lt_def] at h
  have hv := lerp_toNat v0 v1 t
  have hb := scaled_bounds_of_pos t (d := v1.toNat - v0.toNat) (by omega)
  rw [BitVec.le_def, BitVec.lt_def]
  omega

/-- Falling end points: `lerp` stays in `[v1, v0]`; flooring can reach `v1`. -/
theorem lerp_mem_of_gt (v0 v1 t : Byte) (h : v1 < v0) : v1 ≤ lerp v0 v1 t ∧ lerp v0 v1 t ≤ v0 := by
  rw [BitVec.lt_def] at h
  have hv := lerp_toNat v0 v1 t
  have hb := scaled_bounds_of_nonpos t (d := v1.toNat - v0.toNat) (by omega)
  rw [BitVec.le_def, BitVec.le_def]
  omega

/-- Rising end points: `lerp` does not decrease in the fraction. -/
theorem lerp_mono (v0 v1 : Byte) {t u : Byte} (htu : t ≤ u) (h : v0 ≤ v1) : lerp v0 v1 t ≤ lerp v0 v1 u := by
  rw [BitVec.le_def] at htu h ⊢
  have hmul : ((v1.toNat : Int) - v0.toNat) * t.toNat ≤ ((v1.toNat : Int) - v0.toNat) * u.toNat :=
    mul_le_mul_of_nonneg_left (Int.ofNat_le.2 htu) (by omega)
  have ht := lerp_toNat v0 v1 t
  have hu := lerp_toNat v0 v1 u
  omega

/-- Falling end points: `lerp` does not increase in the fraction. -/
theorem lerp_anti (v0 v1 : Byte) {t u : Byte} (htu : t ≤ u) (h : v1 ≤ v0) : lerp v0 v1 u ≤ lerp v0 v1 t := by
  rw [BitVec.le_def] at htu h ⊢
  have hmul : ((v1.toNat : Int) - v0.toNat) * u.toNat ≤ ((v1.toNat : Int) - v0.toNat) * t.toNat :=
    mul_le_mul_of_nonpos_left (Int.ofNat_le.2 htu) (by omega)
  have ht := lerp_toNat v0 v1 t
  have hu := lerp_toNat v0 v1 u
  omega

/-- Settles O41, from the exact integer value of `lerp` and the bounds of the scaled difference. -/
theorem lerpIsMonotonicAndInRange : Obligations.LerpIsMonotonicAndInRange := fun v0 v1 t =>
  ⟨lerp_toNat v0 v1 t, lerp_zero v0 v1, lerp_self v0 t, lerp_mem_of_lt v0 v1 t, lerp_mem_of_gt v0 v1 t,
    fun _ htu => ⟨lerp_mono v0 v1 htu, lerp_anti v0 v1 htu⟩⟩

end Sys2Proof.Machine
end

section
/-! SUPPORT. The byte FIFO (`41_bytefifo.md`): the opcode map read at one row, the occupancy of the ring, the ring read
as the queue of its items, and the host commands' response words; then the obligations of this family. -/

namespace Sys2Proof.Machine

open Sys2Proof

/-! ## Decoding at a row of the opcode map (R55) -/

/-- A word that selects a row decodes to that row's operation: the rows are disjoint, so the first row found is it. -/
theorem decodeCommand_of_rowSelects {r : OpRow} {w : Word} (hr : r ∈ opRows) (hw : rowSelects r w = true) :
    decodeCommand w = .op (r.operation w) := by
  cases hfind : opRows.find? (fun p => rowSelects p w) with
  | none => exact absurd hw (List.find?_eq_none.1 hfind r hr)
  | some q =>
    obtain ⟨hq, before, after, hrows, hbefore⟩ := List.find?_eq_some_iff_append.1 hfind
    have hrq : r = q := by
      rw [hrows, List.mem_append, List.mem_cons] at hr
      rcases hr with hr | hr | hr
      · simpa [hw] using hbefore r hr
      · exact hr
      · have hpair := opRows_conflict
        rw [hrows] at hpair
        have hconflict := List.rel_of_pairwise_cons (List.pairwise_append.1 hpair).2.1 hr
        exact absurd (rowSelects_agree q r w hq hw) hconflict
    simp only [decodeCommand, hfind, hrq]

/-- `imm8` of PUSHTX's word is its operand (R52). -/
theorem imm8Of_pushtx (v : Byte) : imm8Of (0x1000 ||| v.setWidth 16) = v := by
  revert v
  decide

/-- PUSHTX's word decodes to PUSHTX of its operand. -/
theorem decode_pushtx (v : Byte) : decode (.command (0x1000 ||| v.setWidth 16)) = .op (.pushtx v) := by
  have hrow : rowSelects { pattern := 0x1000, mask := 0xFF00, operation := fun w => .pushtx (imm8Of w) }
      (0x1000 ||| v.setWidth 16) = true := by
    revert v
    decide
  calc decodeCommand (0x1000 ||| v.setWidth 16)
      = .op (.pushtx (imm8Of (0x1000 ||| v.setWidth 16))) := decodeCommand_of_rowSelects (by simp [opRows]) hrow
    _ = .op (.pushtx v) := by rw [imm8Of_pushtx]

/-! ## The occupancy of the ring (R80, R81) -/

/-- `wr` is `len` places after `rd` on the ring of `2·CAP`. -/
theorem Fifo.rd_add_len_modEq {cap : Nat} (hcap : 0 < cap) (q : Fifo) : q.rd + q.len cap ≡ q.wr [MOD 2 * cap] := by
  have hrd : q.rd % (2 * cap) < 2 * cap := Nat.mod_lt _ (by omega)
  calc q.rd + q.len cap
      ≡ q.rd % (2 * cap) + (q.wr + (2 * cap - q.rd % (2 * cap))) [MOD 2 * cap] :=
        (Nat.mod_modEq _ _).symm.add (Nat.mod_modEq _ _)
    _ = q.wr + 2 * cap := by omega
    _ ≡ q.wr [MOD 2 * cap] := Nat.add_modEq_right

/-- The occupancy is the one distance below `2·CAP` from `rd` to `wr`. -/
theorem Fifo.len_eq_of_modEq {cap n : Nat} {q : Fifo} (hn : n < 2 * cap) (h : q.rd + n ≡ q.wr [MOD 2 * cap]) :
    q.len cap = n := by
  have hcap : 0 < cap := by omega
  have hsame : q.len cap ≡ n [MOD 2 * cap] :=
    Nat.ModEq.add_left_cancel' q.rd ((q.rd_add_len_modEq hcap).trans h.symm)
  exact hsame.eq_of_lt_of_lt (q.len_lt cap hcap) hn

/-- The occupancy in natural numbers is R81's over the integers. -/
theorem Fifo.len_eq_held {cap : Nat} (hcap : 0 < cap) (q : Fifo) : (q.len cap : Int) = q.held cap := by
  have hring : ((q.rd + q.len cap : Nat) : Int) ≡ (q.wr : Nat) [ZMOD ((2 * cap : Nat) : Int)] :=
    Int.natCast_modEq_iff.2 (q.rd_add_len_modEq hcap)
  have hdiff := hring.sub_right (q.rd : Int)
  have hlt := q.len_lt cap hcap
  rw [Nat.cast_add, add_sub_cancel_left] at hdiff
  calc (q.len cap : Int) = (q.len cap : Int) % ((2 * cap : Nat) : Int) :=
        (Int.emod_eq_of_lt (by omega) (by omega)).symm
    _ = q.held cap := by rw [hdiff.eq, Fifo.held, Nat.cast_mul, Nat.cast_ofNat]

/-- Inside the invariant a FIFO is empty exactly when it holds nothing. -/
theorem Fifo.empty_iff_len {cap : Nat} {q : Fifo} (hq : q.Inv cap) : q.empty = true ↔ q.len cap = 0 := by
  obtain ⟨-, -, hwr, hrd, -⟩ := hq
  have hcap : 0 < cap := by omega
  rw [Fifo.empty_iff]
  constructor
  · intro h
    exact Fifo.len_eq_of_modEq (by omega) (by rw [h, Nat.add_zero])
  · intro h
    have hring := q.rd_add_len_modEq hcap
    rw [h] at hring
    exact (hring.eq_of_lt_of_lt hrd hwr).symm

/-- The entry after the last held one is the entry at `wr`. -/
theorem Fifo.rd_add_len_mod {cap : Nat} (hcap : 0 < cap) (q : Fifo) :
    (q.rd + q.len cap) % cap = q.wr % cap :=
  (q.rd_add_len_modEq hcap).of_mul_left 2

/-! ## `in` (R84) -/

/-- `in` on a FIFO that is not full. -/
theorem Fifo.enqueue_of_len_lt {cap : Nat} {q : Fifo} (b : Byte) (h : q.len cap < cap) :
    q.enqueue cap b = (true, q.push cap b) := by
  rcases Fifo.enqueue_cases cap q b with ⟨hlen, _⟩ | ⟨_, henq⟩
  · omega
  · exact henq

/-- `in` on a full FIFO changes nothing. -/
theorem Fifo.enqueue_of_full {cap : Nat} {q : Fifo} (b : Byte) (h : q.full cap = true) :
    q.enqueue cap b = (false, q) := by
  simp only [Fifo.enqueue, h, if_true]

/-- A push adds one to the occupancy. -/
theorem Fifo.push_len {cap : Nat} {q : Fifo} (b : Byte) (h : q.len cap < cap) :
    (q.push cap b).len cap = q.len cap + 1 := by
  apply Fifo.len_eq_of_modEq (by omega)
  rw [Fifo.push_rd, Fifo.push_wr, ← Nat.add_assoc]
  exact ((q.rd_add_len_modEq (by omega)).add_right 1).trans (Nat.mod_modEq _ _).symm

/-- A push into a FIFO that is not full keeps its invariant. -/
theorem Fifo.push_inv {cap : Nat} {q : Fifo} (b : Byte) (hq : q.Inv cap) (h : q.len cap < cap) :
    (q.push cap b).Inv cap := by
  obtain ⟨hwf, hbuf, hwr, hrd, -⟩ := hq
  refine ⟨q.push_wf cap b hwf, ?_, Nat.mod_lt _ (by omega), hrd, ?_⟩
  · intro c hc
    rcases Memory.write_mem _ _ _ c hc with hc | rfl
    · exact hbuf c hc
    · exact Nat.mod_lt _ (by omega)
  · rw [Fifo.push_len b h]
    omega

/-- A push appends its byte to the queue and moves none of those held. -/
theorem Fifo.push_items {cap : Nat} {q : Fifo} (b : Byte) (hq : q.Inv cap) (h : q.len cap < cap) :
    (q.push cap b).items cap = q.items cap ++ [b] := by
  obtain ⟨hwf, -⟩ := hq
  have hcap : 0 < cap := by omega
  have hread := fun a => Fifo.push_read cap q b a hwf
  have hheld : ∀ k ∈ List.range (q.len cap),
      Memory.read (q.push cap b).buf ((q.rd + k) % cap) = Memory.read q.buf ((q.rd + k) % cap) := by
    intro k hk
    have hk : k < q.len cap := List.mem_range.1 hk
    have hne : (q.rd + k) % cap ≠ q.wr % cap := by
      rw [← q.rd_add_len_mod hcap]
      intro heq
      have : k = q.len cap := (Nat.ModEq.add_left_cancel' q.rd heq).eq_of_lt_of_lt (by omega) h
      omega
    rw [hread, if_neg hne]
  have hlast : Memory.read (q.push cap b).buf ((q.rd + q.len cap) % cap) = b := by
    rw [hread, if_pos (q.rd_add_len_mod hcap)]
  simp only [Fifo.items, Fifo.push_len b h, Fifo.push_rd, List.range_succ, List.map_append, List.map_cons,
    List.map_nil, hlast, List.map_congr_left hheld]

/-! ## `out` (R85) -/

/-- The FIFO that `out` leaves: `rd` advanced, the buffer as it was. -/
def Fifo.pop (cap : Nat) (q : Fifo) : Fifo := { q with rd := (q.rd + 1) % (2 * cap) }

@[simp] theorem Fifo.pop_buf (cap : Nat) (q : Fifo) : (q.pop cap).buf = q.buf := rfl

@[simp] theorem Fifo.pop_rd (cap : Nat) (q : Fifo) : (q.pop cap).rd = (q.rd + 1) % (2 * cap) := rfl

/-- `out` on a FIFO that is not empty. -/
theorem Fifo.dequeue_of_ne {cap : Nat} {q : Fifo} (h : q.wr ≠ q.rd) :
    q.dequeue cap = some (Memory.read q.buf (q.rd % cap), q.pop cap) := by
  rcases Fifo.dequeue_cases cap q with ⟨heq, _⟩ | ⟨_, hdeq⟩
  · exact absurd heq h
  · exact hdeq

/-- `out` on an empty FIFO answers nothing. -/
theorem Fifo.dequeue_of_eq {cap : Nat} {q : Fifo} (h : q.wr = q.rd) : q.dequeue cap = none := by
  rcases Fifo.dequeue_cases cap q with ⟨_, hdeq⟩ | ⟨hne, _⟩
  · exact hdeq
  · exact absurd h hne

/-- Taking a byte takes one from the occupancy. -/
theorem Fifo.pop_len {cap n : Nat} {q : Fifo} (hcap : 0 < cap) (h : q.len cap = n + 1) :
    (q.pop cap).len cap = n := by
  have hlt := q.len_lt cap hcap
  apply Fifo.len_eq_of_modEq (by omega)
  calc (q.rd + 1) % (2 * cap) + n
      ≡ q.rd + 1 + n [MOD 2 * cap] := (Nat.mod_modEq _ _).add_right n
    _ = q.rd + q.len cap := by omega
    _ ≡ q.wr [MOD 2 * cap] := q.rd_add_len_modEq hcap

/-- Taking a byte from a FIFO that holds one keeps its invariant. -/
theorem Fifo.pop_inv {cap n : Nat} {q : Fifo} (hq : q.Inv cap) (h : q.len cap = n + 1) : (q.pop cap).Inv cap := by
  obtain ⟨hwf, hbuf, hwr, -, hlen⟩ := hq
  have hpop := Fifo.pop_len (by omega) h
  exact ⟨hwf, hbuf, hwr, Nat.mod_lt _ (by omega), by omega⟩

/-- The queue of a FIFO that holds a byte: the entry at `rd`, then what `out` leaves. -/
theorem Fifo.items_eq_cons {cap n : Nat} {q : Fifo} (hcap : 0 < cap) (h : q.len cap = n + 1) :
    q.items cap = Memory.read q.buf (q.rd % cap) :: (q.pop cap).items cap := by
  have hshift : ∀ k, ((q.rd + 1) % (2 * cap) + k) % cap = (q.rd + (k + 1)) % cap := by
    intro k
    have hmod : (q.rd + 1) % (2 * cap) + k ≡ q.rd + 1 + k [MOD cap] :=
      ((Nat.mod_modEq _ _).of_mul_left 2).add_right k
    rw [hmod, Nat.add_assoc, Nat.add_comm 1 k]
  simp only [Fifo.items, h, Fifo.pop_len hcap h, List.range_succ_eq_map, List.map_cons, List.map_map,
    Nat.add_zero, Fifo.pop_buf, Fifo.pop_rd, Function.comp_def, Nat.succ_eq_add_one, hshift]

/-! ## The ring read as a queue (R80) -/

/-- A FIFO holds as many items as its occupancy says. -/
@[simp] theorem Fifo.items_length (cap : Nat) (q : Fifo) : (q.items cap).length = q.len cap := by
  simp [Fifo.items]

/-- Inside the invariant an empty FIFO is one without items. -/
theorem Fifo.empty_iff_items {cap : Nat} {q : Fifo} (hq : q.Inv cap) : q.empty = true ↔ q.items cap = [] := by
  rw [Fifo.empty_iff_len hq, ← List.length_eq_zero_iff, Fifo.items_length]

/-- `out` on a FIFO that holds items answers the oldest and leaves the others. -/
theorem Fifo.dequeue_of_items {cap : Nat} {q : Fifo} {x : Byte} {xs : List Byte} (hq : q.Inv cap)
    (h : q.items cap = x :: xs) :
    q.dequeue cap = some (x, q.pop cap) ∧ (q.pop cap).Inv cap ∧ (q.pop cap).items cap = xs := by
  have hlen : q.len cap = xs.length + 1 := by rw [← Fifo.items_length, h, List.length_cons]
  have hcap : 0 < cap := by
    obtain ⟨-, -, hwr, -, -⟩ := hq
    omega
  have hne : q.wr ≠ q.rd := by
    rw [Ne, ← Fifo.empty_iff, Fifo.empty_iff_len hq]
    omega
  rw [Fifo.items_eq_cons hcap hlen] at h
  obtain ⟨hx, hxs⟩ := List.cons.inj h
  exact ⟨by rw [Fifo.dequeue_of_ne hne, hx], Fifo.pop_inv hq hlen, hxs⟩

/-! ## Filling and draining (R87) -/

/-- Bytes that fit are all accepted, and stand behind those already held. -/
theorem Fifo.enqueueAll_of_fits {cap : Nat} (bs : List Byte) {q : Fifo} (hq : q.Inv cap)
    (hfits : q.len cap + bs.length ≤ cap) :
    ∃ r, Fifo.enqueueAll cap q bs = (List.replicate bs.length true, r) ∧ r.Inv cap ∧
      r.items cap = q.items cap ++ bs := by
  induction bs generalizing q with
  | nil => exact ⟨q, rfl, hq, by simp⟩
  | cons b bs ih =>
    rw [List.length_cons] at hfits
    have hlt : q.len cap < cap := by omega
    have hfits' : (q.push cap b).len cap + bs.length ≤ cap := by
      rw [Fifo.push_len b hlt]
      omega
    obtain ⟨r, hall, hr, hitems⟩ := ih (Fifo.push_inv b hq hlt) hfits'
    refine ⟨r, ?_, hr, ?_⟩
    · simp only [Fifo.enqueueAll, Fifo.enqueue_of_len_lt b hlt, hall, List.length_cons, List.replicate_succ]
    · rw [hitems, Fifo.push_items b hq hlt, List.append_assoc, List.singleton_append]

/-- As many `out` calls as there are items answer the items in order and leave an empty FIFO. -/
theorem Fifo.dequeueMany_of_items {cap : Nat} (bs : List Byte) {q : Fifo} (hq : q.Inv cap)
    (hitems : q.items cap = bs) :
    ∃ r, Fifo.dequeueMany cap bs.length q = (bs, r) ∧ r.empty = true := by
  induction bs generalizing q with
  | nil => exact ⟨q, rfl, (Fifo.empty_iff_items hq).2 hitems⟩
  | cons b bs ih =>
    obtain ⟨hdeq, hpop, hrest⟩ := Fifo.dequeue_of_items hq hitems
    obtain ⟨r, hmany, hr⟩ := ih hpop hrest
    exact ⟨r, by simp only [List.length_cons, Fifo.dequeueMany, hdeq, hmany], hr⟩

/-- Settles O13: filling makes the items the bytes given, which draining answers from the front. -/
theorem fifoFillsAndDrainsInOrder : Obligations.FifoFillsAndDrainsInOrder := by
  rintro cap q bs extra hq - hempty rfl
  have hlen : q.len bs.length = 0 := (Fifo.empty_iff_len hq).1 hempty
  obtain ⟨full, hfill, hinv, hitems⟩ := Fifo.enqueueAll_of_fits bs hq (by omega)
  rw [(Fifo.empty_iff_items hq).1 hempty, List.nil_append] at hitems
  have hfull : full.full bs.length = true := by rw [Fifo.full_iff, ← Fifo.items_length, hitems]
  obtain ⟨drained, hdrain, hdrained⟩ := Fifo.dequeueMany_of_items bs hinv hitems
  exact ⟨full, drained, hfill, Fifo.enqueue_of_full extra hfull, hfull, hdrain, hdrained⟩

/-! ## Host commands (R91 to R94) -/

/-- The capacity is a power of two. -/
theorem cap_pos (c : Cfg) : 0 < c.cap := Nat.two_pow_pos c.fifoLog2

/-- R83 over the integers. -/
theorem Fifo.held_eq_cap_iff {cap : Nat} (hcap : 0 < cap) (q : Fifo) : q.held cap = cap ↔ q.len cap = cap := by
  rw [← q.len_eq_held hcap, Int.ofNat_inj]

/-- PUSHTX through the answer of `in`. -/
theorem exec_pushtx {s : State} {v : Byte} {a : Bool} {q : Fifo} (h : s.txf.enqueue s.cfg.cap v = (a, q)) :
    exec (.pushtx v) s = .next { s with txf := q, rsp := if a then 1 else 0 } := by
  show execPushtx v s = _
  simp only [execPushtx, h]
  rfl

/-- Settles O15, by the two cases of `in`; the buffer reads as after one write. -/
theorem pushtxStoresOrDrops : Obligations.PushtxStoresOrDrops := by
  intro s v
  have hcap := cap_pos s.cfg
  rw [ne_eq, s.txf.held_eq_cap_iff hcap]
  refine ⟨decode_pushtx v, ?_, ?_⟩
  · intro hfull
    exact exec_pushtx (Fifo.enqueue_of_full v ((Fifo.full_iff _ _).2 hfull))
  · intro hnotFull hwf
    have hread := fun a => s.txf.push_read s.cfg.cap v a hwf
    rcases Fifo.enqueue_cases s.cfg.cap s.txf v with ⟨hfull, _⟩ | ⟨_, henq⟩
    · exact absurd hfull hnotFull
    · exact ⟨_, exec_pushtx henq, rfl, rfl, rfl, (hread _).trans (if_pos rfl),
        fun a ha => (hread a).trans (if_neg ha)⟩

/-- `valid` and the byte lie in different bits of the response, so joining them is adding them. -/
theorem valid_or_byte (b : Byte) : (0x0100 ||| b.setWidth 16 : Word) = BitVec.ofNat 16 (0x100 + b.toNat) := by
  have hor : 2 ^ 8 * 1 + b.toNat = 2 ^ 8 * 1 ||| b.toNat := Nat.two_pow_add_eq_or_of_lt b.isLt 1
  rw [show 0x100 + b.toNat = 0x100 ||| b.toNat from hor, BitVec.ofNat_or, BitVec.ofNat_toNat]
  rfl

/-- Settles O16, by the two cases of `out`. -/
theorem poprxTakesTheOldestByte : Obligations.PoprxTakesTheOldestByte := by
  refine ⟨rfl, fun s => ⟨fun hempty => ?_, fun hne => ?_⟩⟩
  · show execPoprx s = _
    simp only [execPoprx, Fifo.dequeue_of_eq hempty]
    rfl
  · show execPoprx s = _
    simp only [execPoprx, Fifo.dequeue_of_ne hne, valid_or_byte]
    rfl

/-- An occupancy is the same word from the natural number and from R81's integer. -/
theorem lenWord_eq_heldWord (c : Cfg) (q : Fifo) : BitVec.ofNat 16 (q.len c.cap) = BitVec.ofInt 16 (q.held c.cap) := by
  rw [← q.len_eq_held (cap_pos c), BitVec.ofInt_natCast]

/-- Settles O17. -/
theorem lengthQueriesAnswerOccupancy : Obligations.LengthQueriesAnswerOccupancy := by
  refine ⟨rfl, rfl, fun s => ⟨?_, ?_⟩⟩
  · rw [← lenWord_eq_heldWord]
    rfl
  · rw [← lenWord_eq_heldWord]
    rfl

end Sys2Proof.Machine
end

section
/-! SUPPORT. The TxFramer (`43_txframer.md`): the gate on `TXF`, an equation per branch of the six state rules, what a
command and a TICK leave of the transmit registers, and the course of one frame on the line; then the obligations of
this family. -/

namespace Sys2Proof.Machine

open Sys2Proof

/-! ## Taking a byte (R89) -/

/-- Under `txGate` the oldest byte is taken and `TXF.rd` advances. -/
theorem txTake_of_gate {s : State} (h : s.mode = .data ∧ s.txf.wr ≠ s.txf.rd) :
    txTake s = some (Memory.read s.txf.buf (s.txf.rd % s.cfg.cap), s.setTxf (s.txf.pop s.cfg.cap)) := by
  rcases txTake_cases s with ⟨_, _, htake⟩ | ⟨hno, _⟩
  · exact htake
  · exact absurd h hno

/-- Without `txGate` nothing is taken. -/
theorem txTake_of_not_gate {s : State} (h : ¬ (s.mode = .data ∧ s.txf.wr ≠ s.txf.rd)) : txTake s = none := by
  rcases txTake_cases s with ⟨hm, hne, _⟩ | ⟨_, htake⟩
  · exact absurd ⟨hm, hne⟩ h
  · exact htake

/-! ## TXSTEP (R110, R111) -/

/-- The rule that `tx.state` selects is BITSTEP. -/
theorem exec_txRuleOf (s : State) : exec (txRuleOf s.tx.state) s = .next (bitStep s) := by
  unfold bitStep
  cases s.tx.state <;> rfl

/-- TXSTEP on a bit boundary. -/
theorem txStep_of_boundary {s : State} (h : s.tx.clk = 0) :
    txStep s = (bitStep s).setTx { (bitStep s).tx with clk := nextTxClk s } := by
  simp only [txStep, if_pos h]

/-- TXSTEP inside a bit period. -/
theorem txStep_of_not_boundary {s : State} (h : s.tx.clk ≠ 0) :
    txStep s = s.setTx { s.tx with clk := nextTxClk s } := by
  simp only [txStep, if_neg h]

/-- Settles O27: the state between the two parts is BITSTEP's on a boundary and the old one elsewhere. -/
theorem txstepRunsTheSelectedRuleAtBoundaries : Obligations.TxstepRunsTheSelectedRuleAtBoundaries := by
  intro s
  by_cases hclk : s.tx.clk = 0
  · exact ⟨bitStep s, fun _ => exec_txRuleOf s, fun hne => absurd hclk hne,
      congrArg Host.Outcome.next (txStep_of_boundary hclk)⟩
  · exact ⟨s, fun h => absurd h hclk, fun _ => rfl, congrArg Host.Outcome.next (txStep_of_not_boundary hclk)⟩

/-! ## WAIT (R112) -/

/-- Settles O28, by the gate and then by the two carrier flags. -/
theorem txWaitStartsOrIdles : Obligations.TxWaitStartsOrIdles := by
  intro s
  refine ⟨fun hgate => ?_, fun hgate hidle => ?_, fun hgate hcarrier hactive => ?_⟩
  · show Host.Outcome.next (txWait s) = _
    simp only [txWait, txTake_of_gate hgate]
    rfl
  · have hor : (s.tx.carrier || s.tx.active) = true := by simpa only [Bool.or_eq_true] using hidle
    show Host.Outcome.next (txWait s) = _
    simp only [txWait, txTake_of_not_gate hgate, hor, if_true]
    rfl
  · have hor : (s.tx.carrier || s.tx.active) = false := by rw [hcarrier, hactive, Bool.or_self]
    show Host.Outcome.next (txWait s) = _
    simp only [txWait, txTake_of_not_gate hgate, hor]
    rfl

/-! ## PREAMBLE (R113) -/

/-- Where it fits, the counted period is stored exactly. -/
theorem nextTxBits_stored {s : State} (h : s.tx.bits.toNat < 255) :
    (BitVec.ofNat 8 (nextTxBits s)).toNat = s.tx.bits.toNat + 1 := by
  rw [BitVec.toNat_ofNat, nextTxBits]
  omega

/-- Settles O29. -/
theorem txPreambleCountsPeriods : Obligations.TxPreambleCountsPeriods := by
  intro s hfits
  refine ⟨BitVec.ofNat 8 (nextTxBits s), nextTxBits_stored hfits, fun hstart => ?_, fun hcarrier hmore => ?_⟩
  · have hcond : (s.tx.carrier || decide (s.cfg.carrierBits ≤ nextTxBits s)) = true := by
      rw [Bool.or_eq_true, decide_eq_true_eq]
      exact hstart
    show Host.Outcome.next (txPreamble s) = _
    simp only [txPreamble, if_pos hcond]
    rfl
  · have hcond : ¬ (s.tx.carrier || decide (s.cfg.carrierBits ≤ nextTxBits s)) = true := by
      rw [hcarrier, Bool.false_or, decide_eq_true_eq]
      exact Nat.not_le.2 hmore
    show Host.Outcome.next (txPreamble s) = _
    simp only [txPreamble, if_neg hcond]
    rfl

/-! ## START_BIT and DATA_BIT (R114, R115) -/

/-- START_BIT sends the first data bit. -/
theorem txStartBit_eq (s : State) :
    txStartBit s = s.setTx { s.tx with
      sym := symOfBit (s.tx.byte.getLsbD 0), byte := s.tx.byte >>> 1, bits := 1, state := .dataBit } := rfl

/-- DATA_BIT after the last data bit starts the stop bit. -/
theorem txDataBit_of_last {s : State} (h : s.cfg.dataBits ≤ s.tx.bits.toNat) :
    txDataBit s = s.setTx { s.tx with state := .stopBit, sym := .mark } := if_pos h

/-- DATA_BIT before the last data bit sends the next one. -/
theorem txDataBit_of_more {s : State} (h : s.tx.bits.toNat < s.cfg.dataBits) :
    txDataBit s = s.setTx { s.tx with
      sym := symOfBit (s.tx.byte.getLsbD 0), byte := s.tx.byte >>> 1, bits := s.tx.bits + 1 } :=
  if_neg (Nat.not_le.2 h)

/-- The symbol of the lowest bit, told from the byte's parity. -/
theorem symOfBit_lowest (b : Byte) :
    symOfBit (b.getLsbD 0) = if b.toNat % 2 = 1 then .mark else .space := by
  simp only [symOfBit, BitVec.getLsbD, Nat.testBit_zero, decide_eq_true_eq]

/-- The shift of R114 and R115 halves the byte. -/
theorem byte_shift_toNat (b : Byte) : (b >>> 1).toNat = b.toNat / 2 := by
  rw [BitVec.toNat_ushiftRight, Nat.shiftRight_eq_div_pow, Nat.pow_one]

/-- Settles O30. -/
theorem txDataBitsGoOutLowestFirst : Obligations.TxDataBitsGoOutLowestFirst := by
  intro s
  refine ⟨s.tx.byte >>> 1, byte_shift_toNat _, ?_, fun hlast => ?_, fun hmore => ?_⟩
  · rw [← symOfBit_lowest]
    rfl
  · exact congrArg Host.Outcome.next (txDataBit_of_last hlast)
  · rw [← symOfBit_lowest]
    exact congrArg Host.Outcome.next (txDataBit_of_more hmore)

/-! ## STOP_BIT (R117) -/

/-- What STOP_BIT takes when it may go on back to back. -/
theorem stopTake_of_continue {s : State}
    (h : s.cfg.backToBack = true ∧ s.mode = .data ∧ s.txf.wr ≠ s.txf.rd) :
    (if s.cfg.backToBack then txTake s else none) =
      some (Memory.read s.txf.buf (s.txf.rd % s.cfg.cap), s.setTxf (s.txf.pop s.cfg.cap)) := by
  rw [if_pos h.left, txTake_of_gate h.right]

/-- STOP_BIT takes nothing otherwise. -/
theorem stopTake_of_not_continue {s : State}
    (h : ¬ (s.cfg.backToBack = true ∧ s.mode = .data ∧ s.txf.wr ≠ s.txf.rd)) :
    (if s.cfg.backToBack then txTake s else none) = none := by
  by_cases hback : s.cfg.backToBack = true
  · rw [if_pos hback, txTake_of_not_gate (fun hgate => h ⟨hback, hgate⟩)]
  · rw [if_neg hback]

/-- Settles O31. -/
theorem txStopBitContinuesOrTrails : Obligations.TxStopBitContinuesOrTrails := by
  intro s
  refine ⟨fun hgo => ?_, fun hstay => ?_⟩
  · show Host.Outcome.next (txStopBit s) = _
    simp only [txStopBit, stopTake_of_continue hgo]
    rfl
  · show Host.Outcome.next (txStopBit s) = _
    simp only [txStopBit, stopTake_of_not_continue hstay]
    rfl

/-! ## TRAIL (R118) -/

/-- The state with the trail period counted, on which the tests of TRAIL act. -/
def trailCounted (s : State) : State := s.setTx { s.tx with bits := BitVec.ofNat 8 (nextTxBits s) }

/-- TRAIL's first test: the trail is over. -/
theorem txTrail_of_over {s : State} (h : s.cfg.trailBits < nextTxBits s) :
    txTrail s =
      if s.tx.carrier then (trailCounted s).setTx { (trailCounted s).tx with state := .wait, sym := .mark }
      else goSilent ((trailCounted s).setTx { (trailCounted s).tx with state := .wait, active := false }) :=
  if_pos h

/-- TRAIL's second test: a byte waits. -/
theorem txTrail_of_gate {s : State} (hmore : nextTxBits s ≤ s.cfg.trailBits)
    (hgate : s.mode = .data ∧ s.txf.wr ≠ s.txf.rd) :
    txTrail s = startByte (Memory.read s.txf.buf (s.txf.rd % s.cfg.cap))
      ((trailCounted s).setTxf (s.txf.pop s.cfg.cap)) := by
  have htake := txTake_of_gate (s := trailCounted s) hgate
  unfold trailCounted at htake
  simp only [txTrail, if_neg (Nat.not_lt.2 hmore), htake]
  rfl

/-- TRAIL's third and fourth test: nothing to send. -/
theorem txTrail_of_not_gate {s : State} (hmore : nextTxBits s ≤ s.cfg.trailBits)
    (hgate : ¬ (s.mode = .data ∧ s.txf.wr ≠ s.txf.rd)) :
    txTrail s =
      if nextTxBits s = s.cfg.trailBits && !s.tx.carrier then goSilent (trailCounted s)
      else (trailCounted s).setTx { (trailCounted s).tx with sym := .mark } := by
  have htake := txTake_of_not_gate (s := trailCounted s) hgate
  unfold trailCounted at htake
  simp only [txTrail, if_neg (Nat.not_lt.2 hmore), htake]
  rfl

/-- Settles O32, test by test. -/
theorem txTrailTestsInOrder : Obligations.TxTrailTestsInOrder := by
  intro s hfits
  refine ⟨BitVec.ofNat 8 (nextTxBits s), nextTxBits_stored hfits, fun hover hcarrier => ?_,
    fun hover hcarrier => ?_, fun hmore hgate => ?_, fun heq hgate hcarrier => ?_, fun hmore hgate hstay => ?_⟩
  · show Host.Outcome.next (txTrail s) = _
    rw [txTrail_of_over hover, hcarrier]
    rfl
  · show Host.Outcome.next (txTrail s) = _
    rw [txTrail_of_over hover, hcarrier]
    rfl
  · exact congrArg Host.Outcome.next (txTrail_of_gate hmore hgate)
  · have hcond : (decide (nextTxBits s = s.cfg.trailBits) && !s.tx.carrier) = true := by
      rw [hcarrier, Bool.not_false, Bool.and_true, decide_eq_true_eq]
      exact heq
    show Host.Outcome.next (txTrail s) = _
    rw [txTrail_of_not_gate (Nat.le_of_eq heq) hgate, if_pos hcond]
    rfl
  · have hcond : ¬ (decide (nextTxBits s = s.cfg.trailBits) && !s.tx.carrier) = true := by
      simp only [Bool.and_eq_true, decide_eq_true_eq, Bool.not_eq_true']
      rintro ⟨heq, hoff⟩
      rcases hstay with hne | hon
      · exact hne heq
      · exact Bool.false_ne_true (hoff.symm.trans hon)
    show Host.Outcome.next (txTrail s) = _
    rw [txTrail_of_not_gate hmore hgate, if_neg hcond]
    rfl

/-! ## What commands and TICKs leave of the transmit registers -/

/-- A host command writes neither `Cfg` nor any transmit register but `tx.carrier` (R190). -/
theorem exec_command_tx {i : Instr} {s t : State} (hwf : i.wf = true) (hcmd : isTick i = false)
    (h : exec i s = .next t) : t.cfg = s.cfg ∧ t.tx = { s.tx with carrier := t.tx.carrier } := by
  cases i with
  | poprx =>
    change execPoprx s = .next t at h
    unfold execPoprx at h
    split at h <;> rw [← Host.Outcome.next.inj h] <;> exact ⟨rfl, rfl⟩
  | rxcarrier b => cases b <;> rw [← Host.Outcome.next.inj h] <;> exact ⟨rfl, rfl⟩
  | status =>
    rw [← Host.Outcome.next.inj h]
    exact ⟨State.setRsp_cfg s _, by rw [State.setRsp_tx]⟩
  | nop | pushtx | txlen | rxlen | setdir | setline | txcarrier =>
    rw [← Host.Outcome.next.inj h]
    exact ⟨rfl, rfl⟩
  | reservedA | reservedB | reservedC | reservedD | reservedE | reservedF =>
    rw [← Host.Outcome.next.inj h]
    exact ⟨rfl, rfl⟩
  | tick => exact absurd hcmd.symm Bool.false_ne_true
  | _ => exact absurd hwf Bool.false_ne_true

/-- RXSTEP writes `rx` and `RXF` only. -/
theorem rxStep_frame (sym : Bool) (s : State) :
    rxStep sym s = { s with rx := (rxStep sym s).rx, rxf := (rxStep sym s).rxf } := by
  cases h : s.rx.state with
  | carrier =>
    simp only [rxStep, h, rxCarrier]
    split
    · split <;> rfl
    · rfl
  | wait =>
    simp only [rxStep, h, rxWait]
    split <;> rfl
  | preamble =>
    simp only [rxStep, h, rxPreamble]
    split <;> rfl
  | startBit =>
    simp only [rxStep, h, rxStartBit]
    split
    · split <;> rfl
    · rfl
  | dataBit =>
    simp only [rxStep, h, rxDataBit]
    split
    · rfl
    · split <;> rfl
  | stopBit =>
    simp only [rxStep, h, rxStopBit]
    split
    · split <;> rfl
    · rfl

@[simp] theorem rxStep_tx (sym : Bool) (s : State) : (rxStep sym s).tx = s.tx := by
  rw [rxStep_frame]

@[simp] theorem rxStep_cfg (sym : Bool) (s : State) : (rxStep sym s).cfg = s.cfg := by
  rw [rxStep_frame]

@[simp] theorem demod_tx (a : Byte) (s : State) : (demod a s).tx = s.tx := rfl
@[simp] theorem demod_cfg (a : Byte) (s : State) : (demod a s).cfg = s.cfg := rfl
@[simp] theorem wave_tx (s : State) : (wave s).tx = s.tx := rfl
@[simp] theorem wave_cfg (s : State) : (wave s).cfg = s.cfg := rfl

/-- After TXSTEP the rest of a TICK leaves the transmit registers (R161). -/
theorem tick_tx (a : Byte) (s : State) : (tick a s).tx = (txStep s).tx := by
  simp only [tick, tickRx, tickTx, rxStep_tx, demod_tx, wave_tx]

/-- After TXSTEP the rest of a TICK leaves `Cfg`. -/
theorem tick_cfg (a : Byte) (s : State) : (tick a s).cfg = (txStep s).cfg := by
  simp only [tick, tickRx, tickTx, rxStep_cfg, demod_cfg, wave_cfg]

/-- The tick counter counts modulo `N`. -/
theorem nextTxClk_toNat {s : State} {m : Nat} (hpos : 0 < s.cfg.bitLen) (hle : s.cfg.bitLen ≤ 65535)
    (hclk : s.tx.clk.toNat = m % s.cfg.bitLen) : (nextTxClk s).toNat = (m + 1) % s.cfg.bitLen := by
  have hlt : m % s.cfg.bitLen < s.cfg.bitLen := Nat.mod_lt _ hpos
  rw [← Nat.mod_add_mod, ← hclk, nextTxClk]
  split
  case isTrue hwrap =>
    rw [hwrap, Nat.mod_self]
    rfl
  case isFalse hne =>
    rw [Nat.mod_eq_of_lt (by omega), BitVec.toNat_add]
    exact Nat.mod_eq_of_lt (by show _ + 1 < 65536; omega)

/-- The counts of a well-formed configuration that the frame's length rests on (R1). -/
theorem Cfg.wf_frame {c : Cfg} (h : c.wf = true) :
    5 ≤ c.dataBits ∧ c.dataBits ≤ 8 ∧ 8 ≤ c.bitLen ∧ c.bitLen ≤ 65535 := by
  simp only [Cfg.wf, Bool.and_eq_true, decide_eq_true_eq] at h
  tauto

/-! ## One frame on the line (R116) -/

/-- What the transmit registers hold in bit period `p` of the frame of byte `b`: the start bit is period 0, the data
bit `k` period `k + 1`, with the bits not yet sent in `tx.byte`, and the stop bit the period after the last of them. -/
inductive FramePeriod (c : Cfg) (b : Byte) : Nat → TxRegs → Prop where
  | start {r : TxRegs} (hstate : r.state = .startBit) (hsym : r.sym = .space) (hbyte : r.byte = b) :
    FramePeriod c b 0 r
  | data {r : TxRegs} (k : Nat) (hk : k < c.dataBits) (hstate : r.state = .dataBit)
    (hsym : r.sym = symOfBit (b.getLsbD k)) (hbyte : r.byte = b >>> (k + 1)) (hbits : r.bits.toNat = k + 1) :
    FramePeriod c b (k + 1) r
  | stop {r : TxRegs} (hstate : r.state = .stopBit) (hsym : r.sym = .mark) : FramePeriod c b (c.dataBits + 1) r

/-- The period of a frame does not show in `tx.clk`, nor in `tx.carrier`. -/
theorem FramePeriod.set_clk_carrier {c : Cfg} {b : Byte} {p : Nat} {r : TxRegs} (h : FramePeriod c b p r)
    (clk : BitVec 16) (carrier : Bool) : FramePeriod c b p { r with clk := clk, carrier := carrier } := by
  cases h with
  | start hstate hsym hbyte => exact .start hstate hsym hbyte
  | data k hk hstate hsym hbyte hbits => exact .data k hk hstate hsym hbyte hbits
  | stop hstate hsym => exact .stop hstate hsym

/-- The symbol that R116 gives each period. -/
theorem FramePeriod.sym_eq {c : Cfg} {b : Byte} {p : Nat} {r : TxRegs} (h : FramePeriod c b p r) :
    r.sym = if p = 0 then .space
      else if p ≤ c.dataBits then (if b.getLsbD (p - 1) then .mark else .space) else .mark := by
  cases h with
  | start _ hsym _ => exact hsym
  | data k hk _ hsym _ _ =>
    rw [if_neg (Nat.succ_ne_zero k), if_pos (Nat.succ_le_of_lt hk)]
    exact hsym
  | stop _ hsym => rw [if_neg (Nat.succ_ne_zero _), if_neg (Nat.not_succ_le_self _), hsym]

/-- At a boundary before the stop bit the frame goes on to its next period, and only the transmit registers change. -/
theorem FramePeriod.bitStep_next {b : Byte} {p : Nat} {s : State} (hpos : 0 < s.cfg.dataBits)
    (hle : s.cfg.dataBits ≤ 8) (hp : p ≤ s.cfg.dataBits) (h : FramePeriod s.cfg b p s.tx) :
    ∃ r, bitStep s = s.setTx r ∧ FramePeriod s.cfg b (p + 1) r := by
  cases h with
  | start hstate hsym hbyte =>
    have hstep : bitStep s = txStartBit s := by simp only [bitStep, hstate]
    rw [hstep, txStartBit_eq, hbyte]
    exact ⟨_, rfl, .data 0 hpos rfl rfl rfl rfl⟩
  | data k hk hstate hsym hbyte hbits =>
    have hstep : bitStep s = txDataBit s := by simp only [bitStep, hstate]
    rcases Nat.lt_or_ge (k + 1) s.cfg.dataBits with hmore | hlast
    · rw [hstep, txDataBit_of_more (by omega)]
      refine ⟨_, rfl, .data (k + 1) hmore hstate ?_ ?_ ?_⟩
      · simp only [hbyte, BitVec.getLsbD_ushiftRight, Nat.add_zero]
      · simp only [hbyte, ← BitVec.shiftRight_add]
      · rw [BitVec.toNat_add, hbits]
        exact Nat.mod_eq_of_lt (by show k + 1 + 1 < 256; omega)
    · rw [hstep, txDataBit_of_last (by omega), show k + 1 = s.cfg.dataBits by omega]
      exact ⟨_, rfl, .stop rfl rfl⟩
  | stop => omega

/-- `n` TICKs after the one that starts the start bit of byte `b`: the counter and the bit period of the frame. -/
structure FrameAt (c : Cfg) (b : Byte) (n : Nat) (s : State) : Prop where
  cfg : s.cfg = c
  clk : s.tx.clk.toNat = (n + 1) % c.bitLen
  period : FramePeriod c b (n / c.bitLen) s.tx

/-- A host command leaves the frame where it is. -/
theorem FrameAt.command {c : Cfg} {b : Byte} {n : Nat} {i : Instr} {s t : State} (h : FrameAt c b n s)
    (hwf : i.wf = true) (hcmd : isTick i = false) (hexec : exec i s = .next t) : FrameAt c b n t := by
  obtain ⟨hcfg, htx⟩ := exec_command_tx hwf hcmd hexec
  refine ⟨hcfg.trans h.cfg, ?_, ?_⟩
  · rw [htx]
    exact h.clk
  · rw [htx]
    exact h.period.set_clk_carrier _ _

/-- Within the frame TXSTEP writes the transmit registers only, and goes on to the period of the next TICK. -/
theorem FrameAt.txStep_next {c : Cfg} {b : Byte} {n : Nat} {s : State} (hc : c.wf = true) (h : FrameAt c b n s)
    (hn : n + 1 < (c.dataBits + 2) * c.bitLen) :
    ∃ r, txStep s = s.setTx { r with clk := nextTxClk s } ∧ FramePeriod c b ((n + 1) / c.bitLen) r := by
  obtain ⟨hd5, hd8, hN, -⟩ := Cfg.wf_frame hc
  obtain ⟨rfl, hclk, hperiod⟩ := h
  by_cases hdvd : s.cfg.bitLen ∣ n + 1
  · have hzero : s.tx.clk = 0 := BitVec.eq_of_toNat_eq (hclk.trans (Nat.mod_eq_zero_of_dvd hdvd))
    have hdiv : (n + 1) / s.cfg.bitLen = n / s.cfg.bitLen + 1 := Nat.succ_div_of_dvd hdvd
    have hlt : (n + 1) / s.cfg.bitLen < s.cfg.dataBits + 2 := (Nat.div_lt_iff_lt_mul (by omega)).2 hn
    obtain ⟨r, hstep, hnext⟩ := hperiod.bitStep_next (by omega) hd8 (by omega)
    refine ⟨r, ?_, hdiv ▸ hnext⟩
    rw [txStep_of_boundary hzero, hstep]
    rfl
  · have hne : s.tx.clk ≠ 0 := by
      intro hzero
      rw [hzero] at hclk
      exact hdvd (Nat.dvd_of_mod_eq_zero hclk.symm)
    exact ⟨s.tx, txStep_of_not_boundary hne, by rwa [Nat.succ_div_of_not_dvd hdvd]⟩

/-- A TICK takes the frame one tick further, as long as it lasts. -/
theorem FrameAt.tick_next {c : Cfg} {b : Byte} {n : Nat} {s : State} (hc : c.wf = true) (h : FrameAt c b n s)
    (hn : n + 1 < (c.dataBits + 2) * c.bitLen) (a : Byte) : FrameAt c b (n + 1) (tick a s) := by
  obtain ⟨-, -, hN, hN16⟩ := Cfg.wf_frame hc
  obtain ⟨r, hstep, hnext⟩ := h.txStep_next hc hn
  obtain ⟨rfl, hclk, -⟩ := h
  refine ⟨?_, ?_, ?_⟩
  · rw [tick_cfg, hstep, State.setTx_cfg]
  · rw [tick_tx, hstep]
    exact nextTxClk_toNat (by omega) hN16 hclk
  · rw [tick_tx, hstep]
    exact hnext.set_clk_carrier _ _

theorem eq_tick_of_isTick {i : Instr} (h : isTick i = true) : ∃ a, i = .tick a := by
  cases i with
  | tick a => exact ⟨a, rfl⟩
  | _ => exact absurd h Bool.false_ne_true

/-- A TICK counts. -/
theorem tickCount_tick (a : Byte) (is : List Instr) : tickCount (.tick a :: is) = tickCount is + 1 := rfl

/-- A command does not count. -/
theorem tickCount_command {i : Instr} (h : isTick i = false) (is : List Instr) :
    tickCount (i :: is) = tickCount is := by
  simp only [tickCount, List.filter_cons, h, Bool.false_eq_true, if_false]

/-- Operations within the frame take it on by the TICKs among them. -/
theorem FrameAt.execAll_next {c : Cfg} {b : Byte} (hc : c.wf = true) (is : List Instr) {n : Nat} {s : State}
    (h : FrameAt c b n s) (hwf : ∀ i ∈ is, i.wf = true) (hn : n + tickCount is < (c.dataBits + 2) * c.bitLen) :
    ∃ t, execAll is s = .next t ∧ FrameAt c b (n + tickCount is) t := by
  induction is generalizing n s with
  | nil => exact ⟨s, rfl, h⟩
  | cons i is ih =>
    obtain ⟨hi, his⟩ := List.forall_mem_cons.1 hwf
    obtain ⟨u, hu⟩ := exec_total i s
    simp only [execAll, hu]
    cases hcmd : isTick i with
    | true =>
      obtain ⟨a, rfl⟩ := eq_tick_of_isTick hcmd
      obtain rfl : tick a s = u := Host.Outcome.next.inj hu
      rw [tickCount_tick] at hn ⊢
      rw [Nat.add_comm (tickCount is), ← Nat.add_assoc] at hn ⊢
      exact ih (h.tick_next hc (by omega) a) his hn
    | false =>
      rw [tickCount_command hcmd] at hn ⊢
      exact ih (h.command hi hcmd hu) his hn

/-- Settles O35: the frame starts at period 0, every operation takes it on, and each period has its symbol. -/
theorem txFrameOnTheLine : Obligations.TxFrameOnTheLine := by
  intro s is hc hstate hsym hclk hwf hn
  obtain ⟨-, -, hN, -⟩ := Cfg.wf_frame hc
  have hstart : FrameAt s.cfg s.tx.byte 0 s := by
    refine ⟨rfl, ?_, ?_⟩
    · rw [hclk, Nat.mod_eq_of_lt (by omega)]
      rfl
    · rw [Nat.zero_div]
      exact .start hstate hsym rfl
  obtain ⟨t, hrun, hframe⟩ := hstart.execAll_next hc is hwf (by omega)
  rw [Nat.zero_add] at hframe
  exact ⟨t, hrun, hframe.period.sym_eq⟩

end Sys2Proof.Machine
end

section
/-! SUPPORT. The RxDemodulator (`44_rxdemodulator.md`): the range of the product, the value of each tap where nothing is
lost, and what DEMOD leaves in the taps and the delay line; then the obligation of this family. -/

namespace Sys2Proof.Machine

open Sys2Proof

/-! ## The product (R131, R134) -/

/-- The product of two recentred samples is in −16256 .. 16384. Each bound is a combination of products of the factors'
distances from the ends of their range. -/
theorem recentre_mul_bounds (v w : Byte) :
    -16256 ≤ recentre v * recentre w ∧ recentre v * recentre w ≤ 16384 := by
  obtain ⟨hv, hv'⟩ := recentre_bounds v
  obtain ⟨hw, hw'⟩ := recentre_bounds w
  constructor
  · have hlow : 0 ≤ (recentre v + 128) * (recentre w + 128) := mul_nonneg (by omega) (by omega)
    have hhigh : 0 ≤ (127 - recentre v) * (127 - recentre w) := mul_nonneg (by omega) (by omega)
    linarith only [hlow, hhigh]
  · have hleft : 0 ≤ (128 - recentre v) * (128 + recentre w) := mul_nonneg (by omega) (by omega)
    have hright : 0 ≤ (128 + recentre v) * (128 - recentre w) := mul_nonneg (by omega) (by omega)
    linarith only [hleft, hright]

/-! ## The filter (R133) -/

@[simp] theorem iirNext_x0 (t : IirTaps) (p : Int) : (iirNext t p).x0 = t.x1 := rfl
@[simp] theorem iirNext_y0 (t : IirTaps) (p : Int) : (iirNext t p).y0 = t.y1 := rfl

/-- A product of two recentred samples fits the 16 bits of `iir.x1`. -/
theorem iirNext_x1_toInt (t : IirTaps) {p : Int} (hp : -16256 ≤ p ∧ p ≤ 16384) : (iirNext t p).x1.toInt = p :=
  BitVec.toInt_ofInt_eq_self (by decide) (by omega) (by omega)

/-- The sum of the filter fits the 18 bits of `iir.y1`, whatever the taps held: a 16-bit input, such a product and half
of an 18-bit output stay within −114560 .. 114686. -/
theorem iirNext_y1_toInt (t : IirTaps) {p : Int} (hp : -16256 ≤ p ∧ p ≤ 16384) :
    (iirNext t p).y1.toInt = t.x1.toInt + p + t.y1.toInt / 2 := by
  have hx1 : (BitVec.ofInt 16 p).toInt = p := iirNext_x1_toInt t hp
  have hx : -2 ^ 15 ≤ t.x1.toInt ∧ t.x1.toInt < 2 ^ 15 := ⟨t.x1.le_toInt, t.x1.toInt_lt⟩
  have hy : -2 ^ 17 ≤ t.y1.toInt ∧ t.y1.toInt < 2 ^ 17 := ⟨t.y1.le_toInt, t.y1.toInt_lt⟩
  simp only [iirNext, hx1]
  exact BitVec.toInt_ofInt_eq_self (by decide) (by omega) (by omega)

/-! ## DEMOD (R130) -/

@[simp] theorem demod_iir (a : Byte) (s : State) :
    (demod a s).iir = iirNext s.iir (recentre a * recentre s.delay.oldest) := rfl
@[simp] theorem demod_delay (a : Byte) (s : State) : (demod a s).delay = s.delay.push a := rfl

/-- DEMOD writes the taps and the delay line only. -/
theorem demod_frame (a : Byte) (s : State) :
    demod a s = { s with iir := (demod a s).iir, delay := (demod a s).delay } := rfl

/-- Settles O44: the product is in its range, so both new taps hold their exact values. -/
theorem demodIsExact : Obligations.DemodIsExact := by
  intro s a
  have hp := recentre_mul_bounds a s.delay.oldest
  exact ⟨demod a s, recentre a * recentre s.delay.oldest, rfl, demod_frame a s, rfl, iirNext_x0 _ _,
    iirNext_x1_toInt s.iir hp, iirNext_y0 _ _, iirNext_y1_toInt s.iir hp, DelayLine.push_toList s.delay a⟩

end Sys2Proof.Machine
end

section
/-! SUPPORT. The RxFramer (`45_rxframer.md`): what the counters store where they fit, an equation per branch of the six
state rules, and the byte that reaches `RXF`; then the obligations of this family. -/

namespace Sys2Proof.Machine

open Sys2Proof

/-! ## RXSTEP (R140) -/

/-- The rule that `rx.state` selects, run on the state with the symbol shifted in, is RXSTEP. -/
theorem exec_rxRuleOf (sym : Bool) (s : State) :
    exec (rxRuleOf sym s.rx.state) (s.setRx { s.rx with sr := shiftSymbol s.rx.sr sym }) =
      .next (rxStep sym s) := by
  unfold rxStep
  cases s.rx.state <;> rfl

/-- Settles O47: the state between the two steps differs in `rx.sr` only. -/
theorem rxstepShiftsThenRunsTheSelectedRule : Obligations.RxstepShiftsThenRunsTheSelectedRule := fun s sym =>
  ⟨s.setRx { s.rx with sr := shiftSymbol s.rx.sr sym }, rxStep sym s, rfl, shiftSymbol_newest _ _,
    shiftSymbol_previous _ _, exec_rxRuleOf sym s, rfl⟩

/-! ## CARRIER (R141) -/

/-- A LOW symbol ends the run of HIGH symbols. -/
theorem rxCarrier_of_low (s : State) : rxCarrier false s = s.setRx { s.rx with cdCount := 0 } := rfl

/-- A HIGH symbol below the threshold is only counted. -/
theorem rxCarrier_of_below {s : State} (h : s.rx.cdCount.toNat + 1 < s.cfg.cdThresh) :
    rxCarrier true s = s.setRx { s.rx with cdCount := BitVec.ofNat 16 (s.rx.cdCount.toNat + 1) } :=
  if_neg (Nat.not_le.2 h)

/-- A HIGH symbol that reaches the threshold declares the carrier. -/
theorem rxCarrier_of_reached {s : State} (h : s.cfg.cdThresh ≤ s.rx.cdCount.toNat + 1) :
    rxCarrier true s = s.setRx { s.rx with
      cdCount := BitVec.ofNat 16 (s.rx.cdCount.toNat + 1), carrier := true, state := .wait } :=
  if_pos h

/-- Where it fits, the count of HIGH symbols is stored exactly. -/
theorem cdCount_stored {s : State} (h : s.rx.cdCount.toNat < 65535) :
    (BitVec.ofNat 16 (s.rx.cdCount.toNat + 1)).toNat = s.rx.cdCount.toNat + 1 := by
  rw [BitVec.toNat_ofNat]
  omega

/-- Settles O48, by the symbol and then by the threshold. -/
theorem rxCarrierCountsHighSymbols : Obligations.RxCarrierCountsHighSymbols := by
  intro s
  refine ⟨congrArg Host.Outcome.next (rxCarrier_of_low s), fun hfits => ⟨_, cdCount_stored hfits, ?_, ?_⟩⟩
  · rw [cdCount_stored hfits]
    exact fun hbelow => congrArg Host.Outcome.next (rxCarrier_of_below hbelow)
  · rw [cdCount_stored hfits]
    exact fun hreached => congrArg Host.Outcome.next (rxCarrier_of_reached hreached)

/-! ## WAIT (R142) -/

/-- WAIT on the pattern `10`. -/
theorem rxWait_of_edge {s : State} (h : s.rx.sr = 0b10) :
    rxWait s = s.setRx { s.rx with bitClock := 0, bitSum := 0, state := .preamble } := if_pos h

/-- WAIT on any other pattern. -/
theorem rxWait_of_no_edge {s : State} (h : s.rx.sr ≠ 0b10) : rxWait s = s := if_neg h

/-- Settles O49. -/
theorem rxWaitStartsOnAnEdge : Obligations.RxWaitStartsOnAnEdge := fun _ =>
  ⟨fun hedge => congrArg Host.Outcome.next (rxWait_of_edge hedge),
    fun hother => congrArg Host.Outcome.next (rxWait_of_no_edge hother)⟩

/-! ## The two counters (R143, R144, R146, R148) -/

/-- The counted sum, with the symbol read as a number. -/
theorem nextSum_eq_ite (sym : Bool) (s : State) :
    nextSum sym s = s.rx.bitSum.toNat + (if sym then 1 else 0) := by
  cases sym <;> rfl

/-- Where both counters fit their registers, counting a symbol stores the two counts exactly and writes nothing else. -/
theorem countSymbol_stored {sym : Bool} {s : State} (hsum : s.rx.bitSum.toNat < 65535)
    (hclock : s.rx.bitClock.toNat < 65535) :
    ∃ sum clock : BitVec 16, sum.toNat = nextSum sym s ∧ clock.toNat = nextClock s ∧
      countSymbol sym s = { s.rx with bitSum := sum, bitClock := clock } :=
  ⟨_, _, countSymbol_bitSum sym s hsum, countSymbol_bitClock sym s hclock, rfl⟩

/-! ## PREAMBLE and START_BIT (R143, R144) -/

/-- PREAMBLE before the half bit. -/
theorem rxPreamble_of_inside {sym : Bool} {s : State} (h : nextClock s < s.cfg.halfBit) :
    rxPreamble sym s = s.setRx (countSymbol sym s) := if_neg (Nat.not_le.2 h)

/-- PREAMBLE rejects at the half bit. -/
theorem rxPreamble_of_reject {sym : Bool} {s : State} (hend : s.cfg.halfBit ≤ nextClock s)
    (hhigh : s.cfg.eighthBit < nextSum sym s) :
    rxPreamble sym s = s.setRx { countSymbol sym s with state := .wait } := by
  simp only [rxPreamble, if_pos hend, if_pos hhigh]

/-- PREAMBLE accepts at the half bit. -/
theorem rxPreamble_of_accept {sym : Bool} {s : State} (hend : s.cfg.halfBit ≤ nextClock s)
    (hlow : nextSum sym s ≤ s.cfg.eighthBit) :
    rxPreamble sym s = s.setRx { countSymbol sym s with state := .startBit } := by
  simp only [rxPreamble, if_pos hend, if_neg (Nat.not_lt.2 hlow)]

/-- START_BIT before the full bit. -/
theorem rxStartBit_of_inside {sym : Bool} {s : State} (h : nextClock s < s.cfg.bitLen) :
    rxStartBit sym s = s.setRx (countSymbol sym s) := if_neg (Nat.not_le.2 h)

/-- START_BIT rejects at the full bit. -/
theorem rxStartBit_of_reject {sym : Bool} {s : State} (hend : s.cfg.bitLen ≤ nextClock s)
    (hhigh : s.cfg.quarterBit < nextSum sym s) :
    rxStartBit sym s = s.setRx { countSymbol sym s with state := .wait } := by
  simp only [rxStartBit, if_pos hend, if_pos hhigh]

/-- START_BIT accepts at the full bit, and both counts go. -/
theorem rxStartBit_of_accept {sym : Bool} {s : State} (hend : s.cfg.bitLen ≤ nextClock s)
    (hlow : nextSum sym s ≤ s.cfg.quarterBit) :
    rxStartBit sym s = s.setRx { s.rx with state := .dataBit, bitSum := 0, bitClock := 0, bits := 0 } := by
  simp only [rxStartBit, if_pos hend, if_neg (Nat.not_lt.2 hlow)]
  rfl

/-- Settles O50: each rule by its count and then by its sum. -/
theorem rxStartBitIsJudgedTwice : Obligations.RxStartBitIsJudgedTwice := by
  intro s sym hsumFits hclockFits
  obtain ⟨sum, clock, hsum, hclock, hcount⟩ := countSymbol_stored (sym := sym) hsumFits hclockFits
  refine ⟨sum, clock, hsum.trans (nextSum_eq_ite sym s), hclock, ?_⟩
  rw [hsum, hclock]
  refine ⟨fun hin => ?_, fun hend hhigh => ?_, fun hend hlow => ?_,
    fun hin => ?_, fun hend hhigh => ?_, fun hend hlow => ?_⟩ <;>
    refine congrArg Host.Outcome.next ?_
  · rw [rxPreamble_of_inside hin, hcount]
    rfl
  · rw [rxPreamble_of_reject hend hhigh, hcount]
    rfl
  · rw [rxPreamble_of_accept hend hlow, hcount]
    rfl
  · rw [rxStartBit_of_inside hin, hcount]
    rfl
  · rw [rxStartBit_of_reject hend hhigh, hcount]
    rfl
  · exact rxStartBit_of_accept hend hlow

/-! ## DATA_BIT (R146) -/

/-- The incoming bit lands above the halved byte, so joining them is adding them. -/
theorem shiftInBit_toNat (byte : Byte) (bit : Bool) :
    (shiftInBit byte bit).toNat = byte.toNat / 2 + (if bit then 128 else 0) := by
  have hlow : byte.toNat / 2 < 2 ^ 7 := Nat.div_lt_of_lt_mul byte.isLt
  have hjoin : 2 ^ 7 * 1 + byte.toNat / 2 = 2 ^ 7 * 1 ||| byte.toNat / 2 := Nat.two_pow_add_eq_or_of_lt hlow 1
  rw [shiftInBit, BitVec.toNat_or, byte_shift_toNat]
  cases bit with
  | false => exact Nat.or_zero _
  | true => exact (Nat.or_comm _ _).trans (hjoin.symm.trans (Nat.add_comm _ _))

/-- The registers after a vote: the bit shifted in and counted, the sum cleared. -/
def votedRx (sym : Bool) (s : State) : RxRegs :=
  { s.rx with
    byte := shiftInBit s.rx.byte (decide (s.cfg.halfBit < nextSum sym s))
    bits := BitVec.ofNat 4 (s.rx.bits.toNat + 1)
    bitSum := 0 }

/-- The byte after a vote has the majority of the bit period in bit 7. -/
theorem votedRx_byte_toNat (sym : Bool) (s : State) :
    (votedRx sym s).byte.toNat = s.rx.byte.toNat / 2 + (if s.cfg.halfBit < nextSum sym s then 128 else 0) := by
  simp only [votedRx, shiftInBit_toNat, decide_eq_true_eq]

/-- Where it fits, the number of bits received is stored exactly. -/
theorem votedRx_bits_toNat {sym : Bool} {s : State} (h : s.rx.bits.toNat < 15) :
    (votedRx sym s).bits.toNat = s.rx.bits.toNat + 1 := by
  rw [votedRx, BitVec.toNat_ofNat]
  omega

/-- DATA_BIT before the end of the bit period. -/
theorem rxDataBit_of_inside {sym : Bool} {s : State} (h : nextClock s < s.cfg.bitLen) :
    rxDataBit sym s = s.setRx (countSymbol sym s) := if_pos h

/-- DATA_BIT at the end of the last data bit. -/
theorem rxDataBit_of_last {sym : Bool} {s : State} (hend : s.cfg.bitLen ≤ nextClock s)
    (hlast : s.cfg.dataBits ≤ s.rx.bits.toNat + 1) :
    rxDataBit sym s = s.setRx { votedRx sym s with
      state := .stopBit, bitClock := BitVec.ofNat 16 s.cfg.halfBit } := by
  simp only [rxDataBit, if_neg (Nat.not_lt.2 hend), if_pos hlast, votedRx]

/-- DATA_BIT at the end of an earlier data bit. -/
theorem rxDataBit_of_more {sym : Bool} {s : State} (hend : s.cfg.bitLen ≤ nextClock s)
    (hmore : s.rx.bits.toNat + 1 < s.cfg.dataBits) :
    rxDataBit sym s = s.setRx { votedRx sym s with bitClock := 0 } := by
  simp only [rxDataBit, if_neg (Nat.not_lt.2 hend), if_neg (Nat.not_le.2 hmore), votedRx]

/-- `HALF` fits `rx.bitClock` where `N` does. -/
theorem halfBit_stored {c : Cfg} (h : c.bitLen < 65536) : (BitVec.ofNat 16 c.halfBit).toNat = c.bitLen / 2 := by
  rw [BitVec.toNat_ofNat, Cfg.halfBit]
  omega

/-- Settles O51, by the count of samples and then by the count of bits. -/
theorem rxDataBitVotes : Obligations.RxDataBitVotes := by
  intro s sym hsumFits hclockFits hbitsFits hlen
  obtain ⟨sum, clock, hsum, hclock, hcount⟩ := countSymbol_stored (sym := sym) hsumFits hclockFits
  have hbits := votedRx_bits_toNat (sym := sym) hbitsFits
  refine ⟨sum, clock, BitVec.ofNat 16 s.cfg.halfBit, (votedRx sym s).byte, (votedRx sym s).bits,
    hsum.trans (nextSum_eq_ite sym s), hclock, halfBit_stored hlen, hbits, ?_⟩
  rw [hsum, hclock, hbits]
  refine ⟨votedRx_byte_toNat sym s, fun hin => ?_, fun hend hlast => ?_, fun hend hmore => ?_⟩
  · exact congrArg Host.Outcome.next ((rxDataBit_of_inside hin).trans (congrArg s.setRx hcount))
  · exact congrArg Host.Outcome.next (rxDataBit_of_last hend hlast)
  · exact congrArg Host.Outcome.next (rxDataBit_of_more hend hmore)

/-! ## STOP_BIT (R147, R148) -/

/-- Right-aligning the received bits divides by the places they are short of a byte. -/
theorem receivedByte_toNat (s : State) :
    (receivedByte s).toNat = s.rx.byte.toNat / 2 ^ (8 - s.cfg.dataBits) := by
  rw [receivedByte, BitVec.toNat_ushiftRight, Nat.shiftRight_eq_div_pow]

/-- STOP_BIT before the end of its window. -/
theorem rxStopBit_of_inside {sym : Bool} {s : State} (h : nextClock s < s.cfg.bitLen) :
    rxStopBit sym s = s.setRx (countSymbol sym s) := if_neg (Nat.not_le.2 h)

/-- STOP_BIT delivers a byte: the stop bit is valid, the mode is DATA and `RXF` is not full. -/
def Delivers (sym : Bool) (s : State) : Prop :=
  s.cfg.quarterBit < nextSum sym s ∧ s.mode = .data ∧ s.rxf.len s.cfg.cap ≠ s.cfg.cap

/-- `Delivers` is the condition of the rule. -/
theorem delivers_iff (sym : Bool) (s : State) :
    (decide (s.cfg.quarterBit < nextSum sym s) && rxGate s) = true ↔ Delivers sym s := by
  rw [Bool.and_eq_true, decide_eq_true_eq, rxGate_iff, Delivers]

/-- STOP_BIT at the end of its window, with a byte to deliver. -/
theorem rxStopBit_of_delivers {sym : Bool} {s : State} (hend : s.cfg.bitLen ≤ nextClock s) (h : Delivers sym s) :
    rxStopBit sym s =
      (s.setRx { countSymbol sym s with state := .wait }).setRxf (s.rxf.push s.cfg.cap (receivedByte s)) := by
  have hcond := (delivers_iff sym s).2 h
  obtain ⟨-, -, hnotFull⟩ := h
  have hpush : (s.rxf.enqueue s.cfg.cap (receivedByte s)).2 = s.rxf.push s.cfg.cap (receivedByte s) := by
    rcases Fifo.enqueue_cases s.cfg.cap s.rxf (receivedByte s) with ⟨hfull, _⟩ | ⟨_, henq⟩
    · exact absurd hfull hnotFull
    · rw [henq]
  simp only [rxStopBit, if_pos hend, if_pos hcond, hpush]

/-- STOP_BIT at the end of its window, with nothing to deliver. -/
theorem rxStopBit_of_not_delivers {sym : Bool} {s : State} (hend : s.cfg.bitLen ≤ nextClock s)
    (h : ¬ Delivers sym s) : rxStopBit sym s = s.setRx { countSymbol sym s with state := .wait } := by
  simp only [rxStopBit, if_pos hend, if_neg (mt (delivers_iff sym s).1 h)]

/-- Settles O52, by the count and then by whether a byte is delivered; the buffer reads as after one write. -/
theorem rxStopBitDeliversOrDiscards : Obligations.RxStopBitDeliversOrDiscards := by
  intro s sym hsumFits hclockFits hwf
  obtain ⟨sum, clock, hsum, hclock, hcount⟩ := countSymbol_stored (sym := sym) hsumFits hclockFits
  refine ⟨sum, clock, rxStopBit sym s, hsum.trans (nextSum_eq_ite sym s), hclock, rfl, ?_⟩
  rw [hsum, hclock, ne_eq, s.rxf.held_eq_cap_iff (cap_pos s.cfg)]
  change _ ∧ (_ → _ ∧ (Delivers sym s → _) ∧ (¬ Delivers sym s → _))
  refine ⟨fun hin => ?_, fun hend => ?_⟩
  · rw [rxStopBit_of_inside hin, hcount]
    rfl
  · by_cases hdelivers : Delivers sym s
    · have hread := fun a => s.rxf.push_read s.cfg.cap (receivedByte s) a hwf
      rw [rxStopBit_of_delivers hend hdelivers, hcount]
      refine ⟨rfl, fun _ => ⟨rfl, rfl, ?_, fun a ha => (hread a).trans (if_neg ha)⟩,
        fun hno => absurd hdelivers hno⟩
      rw [← receivedByte_toNat]
      exact congrArg BitVec.toNat ((hread _).trans (if_pos rfl))
    · rw [rxStopBit_of_not_delivers hend hdelivers, hcount]
      exact ⟨rfl, fun hyes => absurd hyes hdelivers, fun _ => rfl⟩

end Sys2Proof.Machine
end

section
/-! SUPPORT. The TICK and the control commands (`46_tick_and_control.md`): the STATUS word read bit by bit, the pair
that `dir` and `rev` bind to the receiver, and one equation per command; then the obligations of this family. -/

namespace Sys2Proof.Machine

open Sys2Proof

/-! ## STATUS (R15, R88, R163) -/

/-- Bit `i` of a packed word is entry `i` of its bits, and every bit beyond them is 0. -/
theorem packBits_testBit (bs : List Bool) (i : Nat) : (packBits bs).testBit i = bs.getD i false := by
  induction bs generalizing i with
  | nil => simp [packBits]
  | cons b bs ih =>
    have hpack : packBits (b :: bs) = Nat.bit b (packBits bs) := by
      rw [Nat.bit_val, packBits, Nat.add_comm]
    cases i with
    | zero => rw [hpack, Nat.testBit_bit_zero, List.getD_cons_zero]
    | succ i => rw [hpack, Nat.testBit_bit_succ, ih, List.getD_cons_succ]

/-- The STATUS word bit by bit: its thirteen bits, then zeros. -/
theorem statusWord_getLsbD (s : State) {i : Nat} (h : i < 16) :
    (statusWord s).getLsbD i = (statusBits s).getD i false := by
  rw [statusWord, BitVec.getLsbD_ofNat, packBits_testBit, decide_eq_true h, Bool.true_and]

/-- `full` is R83 over the integers. -/
theorem Fifo.full_eq_decide (c : Cfg) (q : Fifo) : q.full c.cap = decide (q.held c.cap = c.cap) := by
  rw [Bool.eq_iff_iff, Fifo.full_iff, decide_eq_true_iff, q.held_eq_cap_iff (cap_pos c)]

/-- A watermark test on the occupancy is the same over the integers. -/
theorem Fifo.le_len_eq_decide (c : Cfg) (q : Fifo) {n : Nat} {m : Int} (h : (n : Int) = m) :
    decide (n ≤ q.len c.cap) = decide (m ≤ q.held c.cap) := by
  rw [decide_eq_decide, ← h, ← q.len_eq_held (cap_pos c), Int.ofNat_le]

/-- R88's three watermarks over the integers. -/
theorem watermarks_cast (c : Cfg) :
    (c.wmLow : Int) = (c.cap : Int) / 4 ∧ (c.wmMed : Int) = (c.cap : Int) / 2 ∧
      (c.wmHigh : Int) = (c.cap : Int) - (c.cap : Int) / 4 := by
  unfold Cfg.wmLow Cfg.wmMed Cfg.wmHigh
  omega

/-- STATUS drives `rsp` with the STATUS word and leaves the rest. -/
theorem exec_status (s : State) : exec .status s = .next { s with rsp := statusWord s } := rfl

/-- Settles O18: each bit is an entry of `statusBits`; the five FIFO tests there that count in natural numbers are
those of the statement over the integers. -/
theorem statusReportsEveryBit : Obligations.StatusReportsEveryBit := by
  refine ⟨rfl, fun s => ⟨_, exec_status s, rfl, ?_⟩⟩
  obtain ⟨hlow, hmed, hhigh⟩ := watermarks_cast s.cfg
  have hbit := fun i (h : i < 16) => statusWord_getLsbD s h
  have htxFull := s.txf.full_eq_decide s.cfg
  have hrxFull := s.rxf.full_eq_decide s.cfg
  exact ⟨hbit 0 (by decide), hbit 1 (by decide), hbit 2 (by decide), hbit 3 (by decide), hbit 4 (by decide),
    hbit 5 (by decide), hbit 6 (by decide), (hbit 7 (by decide)).trans htxFull, hbit 8 (by decide),
    (hbit 9 (by decide)).trans hrxFull, (hbit 10 (by decide)).trans (s.txf.le_len_eq_decide s.cfg hlow),
    (hbit 11 (by decide)).trans (s.txf.le_len_eq_decide s.cfg hmed),
    (hbit 12 (by decide)).trans (s.txf.le_len_eq_decide s.cfg hhigh),
    hbit 13 (by decide), hbit 14 (by decide), hbit 15 (by decide)⟩

/-! ## The commands that write one flag (R162, R164, R166) -/

/-- Settles O14: NOP only drives `rsp`. -/
theorem nopOnlyAnswersZero : Obligations.NopOnlyAnswersZero :=
  ⟨rfl, fun s => (rfl : execNop s = .next (s.setRsp 0))⟩

/-- Settles O19: SETLINE writes `mode`, then `rsp`. -/
theorem setlineWritesModeOnly : Obligations.SetlineWritesModeOnly :=
  ⟨rfl, rfl, fun s b => (rfl : execSetline b s = .next ((s.setMode b).setRsp 0))⟩

/-- Settles O21: TXCARRIER writes the flag among the transmit registers, then `rsp`. -/
theorem txcarrierWritesTheFlagOnly : Obligations.TxcarrierWritesTheFlagOnly :=
  ⟨rfl, rfl, fun s b => (rfl : execTxcarrier b s = .next ((s.setTx { s.tx with carrier := b }).setRsp 0))⟩

/-! ## The commands that restart the receiver (R165, R167, R168) -/

/-- RXCLEAR with a new state and flag leaves nothing of the old receive registers. -/
theorem RxRegs.cleared_with (r : RxRegs) (st : RxState) (b : Bool) :
    { r.cleared with state := st, carrier := b } =
      { RxRegs.reset with state := st, carrier := b } := rfl

/-- `dir` and `rev` bind `tone[1]` to the receiver exactly when they agree (R101). -/
theorem rxPair_eq_ite (s : State) :
    rxPair s = if (s.dir = .answering ↔ s.rev = true) then s.cfg.tone1 else s.cfg.tone0 := by
  unfold rxPair pairSel
  cases s.dir <;> cases s.rev <;> rfl

/-- Both pairs of a well-formed configuration ask for a delay line of at least one entry (R1). -/
theorem Cfg.wf_qlen_pos {c : Cfg} (h : c.wf = true) : 0 < c.tone0.qlen ∧ 0 < c.tone1.qlen := by
  simp only [Cfg.wf, TonePair.wf, Bool.and_eq_true, decide_eq_true_eq] at h
  omega

/-- Whichever pair is bound to the receiver, its delay line has an entry. -/
theorem rxPair_qlen_pos {s : State} (h : s.cfg.wf = true) : 0 < (rxPair s).qlen := by
  obtain ⟨h0, h1⟩ := Cfg.wf_qlen_pos h
  rw [rxPair_eq_ite]
  split
  · exact h1
  · exact h0

/-- SETDIR as one update of the state; the delay line is that of the pair the new flags bind to the receiver. -/
theorem exec_setdir (d : Direction) (r : Bool) (s : State) :
    exec (.setdir d r) s = .next { s with
      dir := d, rev := r, rx := RxRegs.reset, iir := IirTaps.zero,
      delay := DelayLine.quiet (rxPair (s.setDirRev d r)).qlen, rsp := 0 } := rfl

/-- Settles O20: the update of `exec_setdir`; its quiet delay line is `qlen` copies of the bias, as `qlen` is not 0. -/
theorem setdirRestartsTheReceiver : Obligations.SetdirRestartsTheReceiver := by
  refine ⟨rfl, rfl, rfl, rfl, fun s d r hwf => ⟨_, exec_setdir d r s, rfl, ?_⟩⟩
  have hpos : 0 < (rxPair (s.setDirRev d r)).qlen := rxPair_qlen_pos hwf
  have hqlen : (rxPair (s.setDirRev d r)).qlen =
      if (d = .answering ↔ r = true) then s.cfg.tone1.qlen else s.cfg.tone0.qlen := by
    rw [rxPair_eq_ite, apply_ite TonePair.qlen]
    rfl
  rw [← hqlen]
  exact DelayLine.quiet_toList _ hpos

/-- Settles O22, by the operand: RXCLEAR with the forced state and flag, and for OFF the taps besides. -/
theorem rxcarrierForcesTheFramer : Obligations.RxcarrierForcesTheFramer := by
  refine ⟨rfl, rfl, fun s => ⟨?_, ?_⟩⟩
  · show Host.Outcome.next ((s.setRx { s.rx.cleared with carrier := true, state := .wait }).setRsp 0) = _
    rw [RxRegs.cleared_with]
    rfl
  · show Host.Outcome.next
      (((s.setRx { s.rx.cleared with carrier := false, state := .carrier }).setIir IirTaps.zero).setRsp 0) = _
    rw [RxRegs.cleared_with]
    rfl

/-! ## TICK (R160) -/

/-- A TICK is the receive half on the state the transmit half leaves, with the symbol of the state DEMOD leaves. -/
theorem exec_tick (a : Byte) (s : State) :
    exec (.tick a) s =
      .next (rxStep (demodSymbol (demod a (wave (txStep s)))) (demod a (wave (txStep s)))) := rfl

/-- Settles O24: the states between are those after TXSTEP, WAVE and DEMOD. -/
theorem tickIsItsFourStepsInOrder : Obligations.TickIsItsFourStepsInOrder := fun s a =>
  ⟨txStep s, wave (txStep s), demod a (wave (txStep s)), _, rfl, rfl, rfl, rfl, exec_tick a s⟩

end Sys2Proof.Machine
end

section
/-! SUPPORT. The ring of two indices as a queue (`41_bytefifo.md` R80, R84, R85): the obligation is assembled from the
facts about `in`, `out` and the items. -/

namespace Sys2Proof.Machine

open Sys2Proof

/-- Settles O12: the occupancy is the number of items, a push appends to them, and `out` takes the first. -/
theorem ringRefinesQueue : Obligations.RingRefinesQueue := by
  intro cap q b hq hcap
  obtain ⟨-, -, -, -, hlen⟩ := id hq
  refine ⟨Fifo.items_length cap q, Fifo.len_eq_held hcap q, Fifo.empty_iff_items hq, ?_,
    Fifo.enqueue_of_full b, fun hnotFull => ?_, fun hempty => ?_, fun x xs hitems => ?_⟩
  · rw [Fifo.full_iff, Fifo.items_length]
  · have hne : q.len cap ≠ cap := by
      rw [Ne, ← Fifo.full_iff, hnotFull]
      exact Bool.false_ne_true
    have hlt : q.len cap < cap := by omega
    exact ⟨q.push cap b, Fifo.enqueue_of_len_lt b hlt, Fifo.push_inv b hq hlt, Fifo.push_items b hq hlt⟩
  · exact Fifo.dequeue_of_eq ((Fifo.empty_iff q).1 ((Fifo.empty_iff_items hq).2 hempty))
  · exact ⟨q.pop cap, Fifo.dequeue_of_items hq hitems⟩

end Sys2Proof.Machine
end

section
/-! SUPPORT. The opcode map (`30_encoding.md` R52 to R56): each row is a pattern above a field of operand bits, so a
word that selects a row is the encoding of the row's operation; which words select no row, told from their fields; then
the obligations on encoding. -/

namespace Sys2Proof.Machine

open Sys2Proof

/-! ## A pattern above an operand field -/

/-- A word is its bits from position `k` on joined with its low `k` bits. -/
theorem high_or_low (w : Word) (k : Nat) :
    (w &&& (BitVec.allOnes 16 <<< k)) ||| (w.extractLsb' 0 k).setWidth 16 = w := by
  ext i hi
  by_cases hk : i < k <;> simp [hk, BitVec.getLsbD_eq_getElem hi, -BitVec.reduceAllOnes]

/-- A field of `k` bits has no bit from position `k` on. -/
theorem field_and_high (k : Nat) (x : BitVec k) : x.setWidth 16 &&& (BitVec.allOnes 16 <<< k) = 0#16 := by
  ext i hi
  by_cases hk : i < k <;> simp [hk, -BitVec.reduceAllOnes, Nat.le_of_not_lt]

/-- The bits from position `k` on, as a number. -/
theorem high_toNat (w : Word) (k : Nat) :
    (w &&& (BitVec.allOnes 16 <<< k)).toNat = w.toNat / 2 ^ k * 2 ^ k := by
  have hshift : w &&& (BitVec.allOnes 16 <<< k) = (w >>> k) <<< k := by
    ext i hi
    by_cases hk : i < k
    · simp [hk, -BitVec.reduceAllOnes]
    · simp [hk, -BitVec.reduceAllOnes, BitVec.getLsbD_eq_getElem hi, Nat.add_sub_cancel' (Nat.le_of_not_lt hk)]
  have hlt : w.toNat / 2 ^ k * 2 ^ k < 2 ^ 16 := Nat.lt_of_le_of_lt (Nat.div_mul_le_self _ _) w.isLt
  rw [hshift, BitVec.toNat_shiftLeft, BitVec.toNat_ushiftRight, Nat.shiftRight_eq_div_pow, Nat.shiftLeft_eq,
    Nat.mod_eq_of_lt hlt]

/-! ## The rows of the opcode map (R55) -/

/-- The row is a pattern above a field of `k` operand bits, `f` is its operation, and the encoder joins the pattern
with the field again. -/
structure RowForm (r : OpRow) (k : Nat) (f : BitVec k → Instr) : Prop where
  mem : r ∈ opRows
  width : k ≤ 16
  mask : r.mask = BitVec.allOnes 16 <<< k
  low : r.pattern.extractLsb' 0 k = 0#k
  operation : ∀ w, r.operation w = f (w.extractLsb' 0 k)
  code : ∀ x, encode (f x) = some (.command (r.pattern ||| x.setWidth 16))
  wf : ∀ x, (f x).wf = true

/-- A word that selects a row is the encoding of the row's operation, which is one of a port. -/
theorem RowForm.encode_operation {r : OpRow} {k : Nat} {f : BitVec k → Instr} (h : RowForm r k f) {w : Word}
    (hw : rowSelects r w = true) : encode (r.operation w) = some (.command w) ∧ (r.operation w).wf = true := by
  have hpattern : w &&& (BitVec.allOnes 16 <<< k) = r.pattern := by
    rw [← h.mask]
    exact eq_of_beq hw
  rw [h.operation, h.code, ← hpattern, high_or_low]
  exact ⟨rfl, h.wf _⟩

/-- The word of a row's operation decodes to this operation. -/
theorem RowForm.decode_code {r : OpRow} {k : Nat} {f : BitVec k → Instr} (h : RowForm r k f) (x : BitVec k) :
    decodeCommand (r.pattern ||| x.setWidth 16) = .op (f x) := by
  have hhigh : r.pattern &&& (BitVec.allOnes 16 <<< k) = r.pattern := by
    have hsplit := high_or_low r.pattern k
    rwa [h.low, BitVec.setWidth_zero, BitVec.or_zero] at hsplit
  have hfield : (r.pattern ||| x.setWidth 16).extractLsb' 0 k = x := by
    rw [BitVec.extractLsb'_or, h.low, BitVec.zero_or, BitVec.extractLsb'_setWidth_of_le (by have := h.width; omega),
      BitVec.extractLsb'_eq_self]
  have hselects : rowSelects r (r.pattern ||| x.setWidth 16) = true := by
    rw [rowSelects, h.mask, BitVec.and_or_distrib_right, field_and_high, hhigh, BitVec.or_zero]
    exact beq_self_eq_true _
  rw [decodeCommand_of_rowSelects h.mem hselects, h.operation, hfield]

/-- NOP's row: no operand bits; so for the next rows, each in the order of R55. -/
theorem nop_row : RowForm opRows[0] 0 (fun _ => .nop) :=
  ⟨List.getElem_mem _, by decide, by decide, by decide, fun _ => rfl, by decide, fun _ => rfl⟩

theorem pushtx_row : RowForm opRows[1] 8 .pushtx :=
  ⟨List.getElem_mem _, by decide, by decide, by decide, fun _ => rfl, fun _ => rfl, fun _ => rfl⟩

theorem poprx_row : RowForm opRows[2] 0 (fun _ => .poprx) :=
  ⟨List.getElem_mem _, by decide, by decide, by decide, fun _ => rfl, by decide, fun _ => rfl⟩

theorem status_row : RowForm opRows[3] 0 (fun _ => .status) :=
  ⟨List.getElem_mem _, by decide, by decide, by decide, fun _ => rfl, by decide, fun _ => rfl⟩

theorem txlen_row : RowForm opRows[4] 0 (fun _ => .txlen) :=
  ⟨List.getElem_mem _, by decide, by decide, by decide, fun _ => rfl, by decide, fun _ => rfl⟩

theorem rxlen_row : RowForm opRows[5] 0 (fun _ => .rxlen) :=
  ⟨List.getElem_mem _, by decide, by decide, by decide, fun _ => rfl, by decide, fun _ => rfl⟩

theorem setdir_row : RowForm opRows[6] 2 (fun x => .setdir (directionOf (x.getLsbD 0)) (x.getLsbD 1)) :=
  ⟨List.getElem_mem _, by decide, by decide, by decide, fun _ => by simp [opRows, bitOf], by decide, fun _ => rfl⟩

theorem setline_row : RowForm opRows[7] 1 (fun x => .setline (lineModeOf (x.getLsbD 0))) :=
  ⟨List.getElem_mem _, by decide, by decide, by decide, fun _ => by simp [opRows, bitOf], by decide, fun _ => rfl⟩

theorem txcarrier_row : RowForm opRows[8] 1 (fun x => .txcarrier (x.getLsbD 0)) :=
  ⟨List.getElem_mem _, by decide, by decide, by decide, fun _ => by simp [opRows, bitOf], by decide, fun _ => rfl⟩

theorem rxcarrier_row : RowForm opRows[9] 1 (fun x => .rxcarrier (x.getLsbD 0)) :=
  ⟨List.getElem_mem _, by decide, by decide, by decide, fun _ => by simp [opRows, bitOf], by decide, fun _ => rfl⟩

theorem reservedA_row : RowForm opRows[10] 12 .reservedA :=
  ⟨List.getElem_mem _, by decide, by decide, by decide, fun _ => rfl, fun _ => rfl, fun _ => rfl⟩

theorem reservedB_row : RowForm opRows[11] 12 .reservedB :=
  ⟨List.getElem_mem _, by decide, by decide, by decide, fun _ => rfl, fun _ => rfl, fun _ => rfl⟩

theorem reservedC_row : RowForm opRows[12] 12 .reservedC :=
  ⟨List.getElem_mem _, by decide, by decide, by decide, fun _ => rfl, fun _ => rfl, fun _ => rfl⟩

theorem reservedD_row : RowForm opRows[13] 12 .reservedD :=
  ⟨List.getElem_mem _, by decide, by decide, by decide, fun _ => rfl, fun _ => rfl, fun _ => rfl⟩

theorem reservedE_row : RowForm opRows[14] 12 .reservedE :=
  ⟨List.getElem_mem _, by decide, by decide, by decide, fun _ => rfl, fun _ => rfl, fun _ => rfl⟩

theorem reservedF_row : RowForm opRows[15] 12 .reservedF :=
  ⟨List.getElem_mem _, by decide, by decide, by decide, fun _ => rfl, fun _ => rfl, fun _ => rfl⟩

/-- Every row of the opcode map has this form. -/
theorem opRows_form : ∀ r ∈ opRows, ∃ k f, RowForm r k f := by
  simp only [opRows, List.forall_mem_cons]
  exact ⟨⟨_, _, nop_row⟩, ⟨_, _, pushtx_row⟩, ⟨_, _, poprx_row⟩, ⟨_, _, status_row⟩, ⟨_, _, txlen_row⟩,
    ⟨_, _, rxlen_row⟩, ⟨_, _, setdir_row⟩, ⟨_, _, setline_row⟩, ⟨_, _, txcarrier_row⟩, ⟨_, _, rxcarrier_row⟩,
    ⟨_, _, reservedA_row⟩, ⟨_, _, reservedB_row⟩, ⟨_, _, reservedC_row⟩, ⟨_, _, reservedD_row⟩,
    ⟨_, _, reservedE_row⟩, ⟨_, _, reservedF_row⟩, List.forall_mem_nil _⟩

/-! ## Decoding and encoding agree (R52, R55, R59) -/

/-- An operation that is a row's at some operand field has a word, and the word decodes to it. -/
theorem RowForm.encode_decode {r : OpRow} {k : Nat} {f : BitVec k → Instr} (h : RowForm r k f) (x : BitVec k) :
    ∃ p, encode (f x) = some p ∧ decode p = .op (f x) :=
  ⟨_, h.code x, h.decode_code x⟩

/-- Every operation of a port has a word that decodes to it. -/
theorem encode_decode_of_wf (i : Instr) (hwf : i.wf = true) : ∃ p, encode i = some p ∧ decode p = .op i := by
  cases i with
  | nop => exact nop_row.encode_decode 0
  | pushtx v => exact pushtx_row.encode_decode v
  | poprx => exact poprx_row.encode_decode 0
  | status => exact status_row.encode_decode 0
  | txlen => exact txlen_row.encode_decode 0
  | rxlen => exact rxlen_row.encode_decode 0
  | setdir d r =>
    cases d with
    | originating => cases r with
      | false => exact setdir_row.encode_decode 0
      | true => exact setdir_row.encode_decode 2
    | answering => cases r with
      | false => exact setdir_row.encode_decode 1
      | true => exact setdir_row.encode_decode 3
  | setline b => cases b with
    | command => exact setline_row.encode_decode 0
    | data => exact setline_row.encode_decode 1
  | txcarrier b => cases b with
    | false => exact txcarrier_row.encode_decode 0
    | true => exact txcarrier_row.encode_decode 1
  | rxcarrier b => cases b with
    | false => exact rxcarrier_row.encode_decode 0
    | true => exact rxcarrier_row.encode_decode 1
  | reservedA low => exact reservedA_row.encode_decode low
  | reservedB low => exact reservedB_row.encode_decode low
  | reservedC low => exact reservedC_row.encode_decode low
  | reservedD low => exact reservedD_row.encode_decode low
  | reservedE low => exact reservedE_row.encode_decode low
  | reservedF low => exact reservedF_row.encode_decode low
  | tick adc => exact ⟨.tick adc, rfl, rfl⟩
  | _ => exact absurd hwf Bool.false_ne_true

/-- A command word that decodes to an operation selects a row, and the operation is the row's. -/
theorem decodeCommand_op {w : Word} {i : Instr} (h : decodeCommand w = .op i) :
    ∃ r ∈ opRows, rowSelects r w = true ∧ i = r.operation w := by
  cases hfind : opRows.find? (fun r => rowSelects r w) with
  | none => simp only [decodeCommand, hfind, reduceCtorEq] at h
  | some r =>
    simp only [decodeCommand, hfind, Decoded.op.injEq] at h
    obtain ⟨hw, -⟩ := List.find?_eq_some_iff_append.1 hfind
    exact ⟨r, List.mem_of_find?_eq_some hfind, hw, h.symm⟩

/-- A word that decodes to an operation is the encoding of this operation, which is one of a port. -/
theorem encode_of_decode {p : PortWord} {i : Instr} (h : decode p = .op i) : encode i = some p ∧ i.wf = true := by
  cases p with
  | tick adc =>
    obtain rfl := Decoded.op.inj h
    exact ⟨rfl, rfl⟩
  | command w =>
    obtain ⟨r, hr, hw, rfl⟩ := decodeCommand_op h
    obtain ⟨k, f, hform⟩ := opRows_form r hr
    exact hform.encode_operation hw

/-- Settles O1: each row's pattern and operand field make up the word, in both directions. -/
theorem decodeAndEncodeAgree : Obligations.DecodeAndEncodeAgree :=
  ⟨encode_decode_of_wf, fun _ _ => encode_of_decode⟩

/-- The operation of a command word is no TICK: a TICK's word is one of the tick port. -/
theorem isTick_of_decode_command {w : Word} {i : Instr} (h : decode (.command w) = .op i) : isTick i = false := by
  obtain ⟨henc, -⟩ := encode_of_decode h
  cases i with
  | tick adc => exact absurd (Option.some.inj henc) PortWord.noConfusion
  | _ => rfl

/-- Settles O3: each word by evaluating the decoder on it. -/
theorem vectorWordsDecode : Obligations.VectorWordsDecode :=
  ⟨rfl, rfl, rfl, rfl, rfl, rfl, rfl, rfl, rfl, rfl, rfl, rfl, rfl, rfl, rfl, rfl⟩

/-! ## Reserved words (R53, R56, R169) -/

/-- A word selects a row when their bits above the operand field are the same number. -/
theorem RowForm.rowSelects_iff {r : OpRow} {k : Nat} {f : BitVec k → Instr} (h : RowForm r k f) (w : Word) :
    rowSelects r w = true ↔ w.toNat / 2 ^ k * 2 ^ k = r.pattern.toNat := by
  rw [rowSelects, h.mask, beq_iff_eq, BitVec.toNat_eq, high_toNat]

/-- The first ten rows are those of the defined opcodes. -/
theorem opRows_take : opRows.take 10 = [opRows[0], opRows[1], opRows[2], opRows[3], opRows[4], opRows[5], opRows[6],
    opRows[7], opRows[8], opRows[9]] := rfl

/-- A word that is not reserved by its fields selects one of the rows with a defined opcode, and no other word does. -/
theorem selects_defined_iff (w : Word) :
    (∃ r ∈ opRows.take 10, rowSelects r w = true) ↔ ¬ ReservedByFields w := by
  simp only [opRows_take, List.exists_mem_cons_iff, List.not_mem_nil, false_and, exists_false, or_false,
    nop_row.rowSelects_iff, pushtx_row.rowSelects_iff, poprx_row.rowSelects_iff, status_row.rowSelects_iff,
    txlen_row.rowSelects_iff, rxlen_row.rowSelects_iff, setdir_row.rowSelects_iff, setline_row.rowSelects_iff,
    txcarrier_row.rowSelects_iff, rxcarrier_row.rowSelects_iff]
  change (w.toNat / 1 * 1 = 0 ∨ w.toNat / 256 * 256 = 0x1000 ∨ w.toNat / 1 * 1 = 0x2000 ∨ w.toNat / 1 * 1 = 0x3000 ∨
    w.toNat / 1 * 1 = 0x4000 ∨ w.toNat / 1 * 1 = 0x5000 ∨ w.toNat / 4 * 4 = 0x6000 ∨ w.toNat / 2 * 2 = 0x7000 ∨
    w.toNat / 2 * 2 = 0x8000 ∨ w.toNat / 2 * 2 = 0x9000) ↔ _
  have := w.isLt
  unfold ReservedByFields
  omega

/-- The operation of one of the six reserved opcodes. -/
def isReservedOp (i : Instr) : Bool :=
  match i with
  | .reservedA _ | .reservedB _ | .reservedC _ | .reservedD _ | .reservedE _ | .reservedF _ => true
  | _ => false

/-- The operation of a reserved opcode answers ERR. -/
theorem exec_of_isReservedOp {i : Instr} (h : isReservedOp i = true) (s : State) :
    exec i s = .next (reservedCommand s) := by
  cases i with
  | reservedA | reservedB | reservedC | reservedD | reservedE | reservedF => rfl
  | _ => exact absurd h Bool.false_ne_true

/-- Settles O23: the six operations are those of `isReservedOp`. -/
theorem reservedOpcodesAnswerErr : Obligations.ReservedOpcodesAnswerErr := fun s _ =>
  ⟨exec_of_isReservedOp rfl s, exec_of_isReservedOp rfl s, exec_of_isReservedOp rfl s, exec_of_isReservedOp rfl s,
    exec_of_isReservedOp rfl s, exec_of_isReservedOp rfl s⟩

/-- The first ten rows have no reserved operation, the others have no other. -/
theorem isReservedOp_row (w : Word) :
    (∀ r ∈ opRows.take 10, isReservedOp (r.operation w) = false) ∧
    (∀ r ∈ opRows.drop 10, isReservedOp (r.operation w) = true) := by
  simp [opRows, isReservedOp]

/-- A word reserved by its fields answers ERR, whether it selects a reserved opcode's row or none (R56, R169). -/
theorem runWord_of_reserved {w : Word} (h : ReservedByFields w) (s : State) :
    runWord (.command w) s = .next (reservedCommand s) := by
  unfold runWord
  cases hdec : decode (.command w) with
  | reserved => rfl
  | op i =>
    obtain ⟨r, hr, hw, rfl⟩ := decodeCommand_op hdec
    rw [← List.take_append_drop 10 opRows, List.mem_append] at hr
    rcases hr with hdefined | hreserved
    · exact absurd h ((selects_defined_iff w).1 ⟨r, hdefined, hw⟩)
    · exact exec_of_isReservedOp ((isReservedOp_row w).2 r hreserved) s

/-- A word not reserved by its fields decodes to an operation of a port that is not a reserved opcode's. -/
theorem decode_of_not_reserved {w : Word} (h : ¬ ReservedByFields w) :
    ∃ i, decode (.command w) = .op i ∧ i.wf = true ∧ isTick i = false ∧ isReservedOp i = false := by
  obtain ⟨r, hr, hw⟩ := (selects_defined_iff w).2 h
  have hdec : decode (.command w) = .op (r.operation w) := decodeCommand_of_rowSelects (List.mem_of_mem_take hr) hw
  exact ⟨_, hdec, (encode_of_decode hdec).2, isTick_of_decode_command hdec, (isReservedOp_row w).1 r hr⟩

/-! ## The response of a command (R53) -/

/-- A word below `2^15` has bit 15 clear. -/
theorem ofNat_bit15_of_lt {n : Nat} (h : n < 2 ^ 15) : (BitVec.ofNat 16 n).getLsbD 15 = false := by
  rw [BitVec.getLsbD_ofNat, Nat.testBit_lt_two_pow h, Bool.and_false]

/-- Under a well-formed configuration a FIFO holds less than `2^15` bytes (R1). -/
theorem len_lt_of_wf {c : Cfg} (h : c.wf = true) (q : Fifo) : q.len c.cap < 2 ^ 15 := by
  have hlog : c.fifoLog2 ≤ 14 := by
    simp only [Cfg.wf, Bool.and_eq_true, decide_eq_true_eq] at h
    omega
  have hcap : c.cap ≤ 2 ^ 14 := Nat.pow_le_pow_right (by decide) hlog
  have := q.len_lt c.cap (cap_pos c)
  omega

/-- A command with a defined opcode answers with ERR clear. -/
theorem exec_rsp_bit15 {i : Instr} {s t : State} (hc : s.cfg.wf = true) (hwf : i.wf = true) (hcmd : isTick i = false)
    (hres : isReservedOp i = false) (h : exec i s = .next t) : t.rsp.getLsbD 15 = false := by
  have hzero : (0 : Word).getLsbD 15 = false := by decide
  cases i with
  | pushtx v =>
    rcases Fifo.enqueue_cases s.cfg.cap s.txf v with ⟨-, henq⟩ | ⟨-, henq⟩ <;>
      rw [exec_pushtx henq] at h <;> rw [← Host.Outcome.next.inj h]
    · exact hzero
    · exact ofNat_bit15_of_lt (by decide : 1 < 2 ^ 15)
  | poprx =>
    rcases Fifo.dequeue_cases s.cfg.cap s.rxf with ⟨-, hdeq⟩ | ⟨-, hdeq⟩
    · change execPoprx s = .next t at h
      simp only [execPoprx, hdeq] at h
      rw [← Host.Outcome.next.inj h]
      exact hzero
    · change execPoprx s = .next t at h
      simp only [execPoprx, hdeq, valid_or_byte] at h
      rw [← Host.Outcome.next.inj h]
      exact ofNat_bit15_of_lt (by have := (Memory.read s.rxf.buf (s.rxf.rd % s.cfg.cap)).isLt; omega)
  | status =>
    rw [exec_status] at h
    rw [← Host.Outcome.next.inj h]
    exact statusWord_getLsbD s (by decide)
  | txlen =>
    rw [← Host.Outcome.next.inj h]
    exact ofNat_bit15_of_lt (len_lt_of_wf hc s.txf)
  | rxlen =>
    rw [← Host.Outcome.next.inj h]
    exact ofNat_bit15_of_lt (len_lt_of_wf hc s.rxf)
  | rxcarrier b => cases b <;> rw [← Host.Outcome.next.inj h] <;> exact hzero
  | nop | setdir | setline | txcarrier =>
    rw [← Host.Outcome.next.inj h]
    exact hzero
  | tick => exact absurd hcmd.symm Bool.false_ne_true
  | reservedA | reservedB | reservedC | reservedD | reservedE | reservedF =>
    exact absurd hres.symm Bool.false_ne_true
  | _ => exact absurd hwf Bool.false_ne_true

/-! ## Steps -/

/-- A word alone at its port is what the next fetch takes. -/
theorem fetch_inputOf {s : State} {w : PortWord} {rest : List PortInput} (hin : s.inputs = inputOf w :: rest) :
    fetch s = .op w (s.setInputs rest) := by
  cases w <;> simp only [fetch, hin, inputOf]

/-- A fetched word is run, where the configuration is well-formed. -/
theorem step_of_fetch_op {s s1 : State} {w : PortWord} (hfetch : fetch s = .op w s1) (hc : s1.cfg.wf = true) :
    step s = runWord w s1 := by
  simp only [step, hfetch, hc, if_true]

/-- A word that decodes to an operation runs it. -/
theorem runWord_of_decode {w : PortWord} {i : Instr} (h : decode w = .op i) (s : State) : runWord w s = exec i s := by
  simp only [runWord, h]

/-- Settles O2: a reserved word answers ERR, any other decodes to an operation whose response has ERR clear. -/
theorem reservedWordsAnswerErrAndNothingElse : Obligations.ReservedWordsAnswerErrAndNothingElse := by
  refine ⟨fun _ => rfl, fun s w rest hc hin => ⟨fun hres => ?_, fun hres => ?_⟩⟩
  · rw [step_of_fetch_op (fetch_inputOf (w := .command w) hin) hc, runWord_of_reserved hres]
    rfl
  · obtain ⟨i, hdec, hwf, hcmd, hdefined⟩ := decode_of_not_reserved hres
    obtain ⟨t, ht⟩ := exec_total i (s.setInputs rest)
    refine ⟨t, ?_, exec_rsp_bit15 (s := s.setInputs rest) hc hwf hcmd hdefined ht, i, hwf, hdec⟩
    rw [step_of_fetch_op (fetch_inputOf (w := .command w) hin) hc, runWord_of_decode hdec]
    exact ht

end Sys2Proof.Machine
end

section
/-! SUPPORT. What each state rule of the two framers can do, said once (`43_txframer.md` R112 to R118, `45_rxframer.md`
R141 to R148): `TxMove` and `RxMove` list the outcomes with their conditions; the invariants below split on them and do
not unfold the rules. -/

namespace Sys2Proof.Machine

open Sys2Proof

/-! ## The rules of the TxFramer -/

/-- The state rule of the TxFramer that a state selects. -/
def txRule : TxState → State → State
  | .wait => txWait
  | .preamble => txPreamble
  | .startBit => txStartBit
  | .dataBit => txDataBit
  | .stopBit => txStopBit
  | .trail => txTrail

/-- BITSTEP is the rule that `tx.state` selects (R111). -/
theorem bitStep_eq_txRule (s : State) : bitStep s = txRule s.tx.state s := by
  unfold bitStep
  cases s.tx.state <;> rfl

/-- Each rule is the sub-operation of its name. -/
theorem exec_txRule (r : TxState) (s : State) : exec (txRuleOf r) s = .next (txRule r s) := by
  cases r <;> rfl

/-- `txGate` holds: a byte can be taken from `TXF` (R89). -/
abbrev CanSend (s : State) : Prop := s.mode = .data ∧ s.txf.wr ≠ s.txf.rd

/-- The byte that is taken. -/
def nextByte (s : State) : Byte := Memory.read s.txf.buf (s.txf.rd % s.cfg.cap)

/-- The period counter after one more period. -/
def countedBits (s : State) : BitVec 8 := BitVec.ofNat 8 (nextTxBits s)

/-- The outcomes of each rule of the TxFramer, with the conditions under which it takes them. -/
inductive TxMove (s : State) : TxState → State → Prop
  | waitTake (hgate : CanSend s) : TxMove s .wait ((s.setTxf (s.txf.pop s.cfg.cap)).setTx { s.tx with
      byte := nextByte s, bits := 0, active := true, state := .preamble, sym := .mark })
  | waitHold (hgate : ¬ CanSend s) (hon : s.tx.carrier = true ∨ s.tx.active = true) :
      TxMove s .wait (s.setTx { s.tx with sym := .mark })
  | waitSilent (hgate : ¬ CanSend s) (hcarrier : s.tx.carrier = false) (hactive : s.tx.active = false) :
      TxMove s .wait ((s.setTx { s.tx with sym := .none }).setPhase 0)
  | preambleEnd (hend : s.tx.carrier = true ∨ s.cfg.carrierBits ≤ nextTxBits s) :
      TxMove s .preamble (s.setTx { s.tx with bits := countedBits s, state := .startBit, sym := .space })
  | preambleMore (hcarrier : s.tx.carrier = false) (hmore : nextTxBits s < s.cfg.carrierBits) :
      TxMove s .preamble (s.setTx { s.tx with bits := countedBits s, sym := .mark })
  | startBit : TxMove s .startBit (s.setTx { s.tx with
      sym := symOfBit (s.tx.byte.getLsbD 0), byte := s.tx.byte >>> 1, bits := 1, state := .dataBit })
  | dataLast (hlast : s.cfg.dataBits ≤ s.tx.bits.toNat) :
      TxMove s .dataBit (s.setTx { s.tx with state := .stopBit, sym := .mark })
  | dataMore (hmore : s.tx.bits.toNat < s.cfg.dataBits) : TxMove s .dataBit (s.setTx { s.tx with
      sym := symOfBit (s.tx.byte.getLsbD 0), byte := s.tx.byte >>> 1, bits := s.tx.bits + 1 })
  | stopNext (hback : s.cfg.backToBack = true) (hgate : CanSend s) :
      TxMove s .stopBit ((s.setTxf (s.txf.pop s.cfg.cap)).setTx { s.tx with
        byte := nextByte s, state := .startBit, sym := .space })
  | stopTrail (hend : ¬ (s.cfg.backToBack = true ∧ CanSend s)) :
      TxMove s .stopBit (s.setTx { s.tx with state := .trail, sym := .mark, bits := 0 })
  | trailHold (hover : s.cfg.trailBits < nextTxBits s) (hcarrier : s.tx.carrier = true) :
      TxMove s .trail (s.setTx { s.tx with bits := countedBits s, state := .wait, sym := .mark })
  | trailOver (hover : s.cfg.trailBits < nextTxBits s) (hcarrier : s.tx.carrier = false) :
      TxMove s .trail ((s.setTx { s.tx with
        bits := countedBits s, state := .wait, active := false, sym := .none }).setPhase 0)
  | trailTake (hmore : nextTxBits s ≤ s.cfg.trailBits) (hgate : CanSend s) :
      TxMove s .trail ((s.setTxf (s.txf.pop s.cfg.cap)).setTx { s.tx with
        bits := countedBits s, byte := nextByte s, state := .startBit, sym := .space })
  | trailLast (hlast : nextTxBits s = s.cfg.trailBits) (hgate : ¬ CanSend s) (hcarrier : s.tx.carrier = false) :
      TxMove s .trail ((s.setTx { s.tx with bits := countedBits s, sym := .none }).setPhase 0)
  | trailMore (hmore : nextTxBits s ≤ s.cfg.trailBits) (hgate : ¬ CanSend s)
      (hmark : nextTxBits s ≠ s.cfg.trailBits ∨ s.tx.carrier = true) :
      TxMove s .trail (s.setTx { s.tx with bits := countedBits s, sym := .mark })

/-- A move under its conditions is what the rule does. -/
theorem TxMove.eq {s t : State} {r : TxState} (h : TxMove s r t) : txRule r s = t := by
  obtain ⟨htake, hhold, hsilent⟩ := txWaitStartsOrIdles s
  obtain ⟨hnext, htrail⟩ := txStopBitContinuesOrTrails s
  cases h with
  | waitTake hgate => exact Host.Outcome.next.inj (htake hgate)
  | waitHold hgate hon => exact Host.Outcome.next.inj (hhold hgate hon)
  | waitSilent hgate hcarrier hactive => exact Host.Outcome.next.inj (hsilent hgate hcarrier hactive)
  | preambleEnd hend =>
    exact if_pos (by rwa [Bool.or_eq_true, decide_eq_true_eq])
  | preambleMore hcarrier hmore =>
    exact if_neg (by rw [hcarrier, Bool.false_or, decide_eq_true_eq]; exact Nat.not_le.2 hmore)
  | startBit => exact txStartBit_eq s
  | dataLast hlast => exact txDataBit_of_last hlast
  | dataMore hmore => exact txDataBit_of_more hmore
  | stopNext hback hgate => exact Host.Outcome.next.inj (hnext ⟨hback, hgate⟩)
  | stopTrail hend => exact Host.Outcome.next.inj (htrail hend)
  | trailHold hover hcarrier => exact (txTrail_of_over hover).trans (if_pos hcarrier)
  | trailOver hover hcarrier =>
    exact (txTrail_of_over hover).trans (if_neg (by rw [hcarrier]; exact Bool.false_ne_true))
  | trailTake hmore hgate => exact txTrail_of_gate hmore hgate
  | trailLast hlast hgate hcarrier =>
    refine (txTrail_of_not_gate (Nat.le_of_eq hlast) hgate).trans (if_pos ?_)
    rw [hlast, hcarrier, decide_eq_true rfl]
    rfl
  | trailMore hmore hgate hmark =>
    refine (txTrail_of_not_gate hmore hgate).trans (if_neg ?_)
    simp only [Bool.and_eq_true, decide_eq_true_eq, Bool.not_eq_true', not_and, Bool.not_eq_false]
    exact fun heq => hmark.resolve_left (not_not_intro heq)

/-- Every rule makes one of its moves. -/
theorem txRule_move (r : TxState) (s : State) : TxMove s r (txRule r s) := by
  have hmove : ∃ t, TxMove s r t := by
    cases r with
    | wait =>
      by_cases hgate : CanSend s
      · exact ⟨_, .waitTake hgate⟩
      · by_cases hon : s.tx.carrier = true ∨ s.tx.active = true
        · exact ⟨_, .waitHold hgate hon⟩
        · rw [not_or, Bool.not_eq_true, Bool.not_eq_true] at hon
          exact ⟨_, .waitSilent hgate hon.1 hon.2⟩
    | preamble =>
      by_cases hend : s.tx.carrier = true ∨ s.cfg.carrierBits ≤ nextTxBits s
      · exact ⟨_, .preambleEnd hend⟩
      · rw [not_or, Bool.not_eq_true, Nat.not_le] at hend
        exact ⟨_, .preambleMore hend.1 hend.2⟩
    | startBit => exact ⟨_, .startBit⟩
    | dataBit =>
      rcases Nat.lt_or_ge s.tx.bits.toNat s.cfg.dataBits with hmore | hlast
      · exact ⟨_, .dataMore hmore⟩
      · exact ⟨_, .dataLast hlast⟩
    | stopBit =>
      by_cases hgo : s.cfg.backToBack = true ∧ CanSend s
      · exact ⟨_, .stopNext hgo.1 hgo.2⟩
      · exact ⟨_, .stopTrail hgo⟩
    | trail =>
      rcases Nat.lt_or_ge s.cfg.trailBits (nextTxBits s) with hover | hmore
      · cases hcarrier : s.tx.carrier with
        | true => exact ⟨_, .trailHold hover hcarrier⟩
        | false => exact ⟨_, .trailOver hover hcarrier⟩
      · by_cases hgate : CanSend s
        · exact ⟨_, .trailTake hmore hgate⟩
        · by_cases hmark : nextTxBits s ≠ s.cfg.trailBits ∨ s.tx.carrier = true
          · exact ⟨_, .trailMore hmore hgate hmark⟩
          · rw [not_or, not_not, Bool.not_eq_true] at hmark
            exact ⟨_, .trailLast hmark.1 hgate hmark.2⟩
  obtain ⟨t, ht⟩ := hmove
  rwa [ht.eq]

/-- A rule of the TxFramer writes `tx`, `phase` and `TXF` only. -/
theorem TxMove.frame {s t : State} {r : TxState} (h : TxMove s r t) :
    t = { s with tx := t.tx, phase := t.phase, txf := t.txf } := by
  cases h <;> rfl

/-- A rule of the TxFramer leaves the tick counter and the persistent-carrier request, and takes at most one byte. -/
theorem TxMove.tx_frame {s t : State} {r : TxState} (h : TxMove s r t) :
    t.tx.clk = s.tx.clk ∧ t.tx.carrier = s.tx.carrier ∧
    (t.txf = s.txf ∨ CanSend s ∧ t.txf = s.txf.pop s.cfg.cap) := by
  cases h with
  | waitTake hgate | stopNext _ hgate | trailTake _ hgate => exact ⟨rfl, rfl, .inr ⟨hgate, rfl⟩⟩
  | _ => exact ⟨rfl, rfl, .inl rfl⟩

/-! ## TXSTEP (R110) -/

/-- TXSTEP on a bit boundary: the selected rule, then the counter. -/
theorem txStep_boundary {s : State} (h : s.tx.clk = 0) :
    txStep s = (txRule s.tx.state s).setTx { (txRule s.tx.state s).tx with clk := nextTxClk s } := by
  rw [txStep_of_boundary h, bitStep_eq_txRule]

/-- TXSTEP writes `tx`, `phase` and `TXF` only. -/
theorem txStep_frame (s : State) :
    txStep s = { s with tx := (txStep s).tx, phase := (txStep s).phase, txf := (txStep s).txf } := by
  by_cases hclk : s.tx.clk = 0
  · rw [txStep_boundary hclk, (txRule_move s.tx.state s).frame]
    rfl
  · rw [txStep_of_not_boundary hclk]
    rfl

/-- TXSTEP leaves the persistent-carrier request and takes at most one byte. -/
theorem txStep_tx_frame (s : State) :
    (txStep s).tx.clk = nextTxClk s ∧ (txStep s).tx.carrier = s.tx.carrier ∧
    ((txStep s).txf = s.txf ∨ CanSend s ∧ (txStep s).txf = s.txf.pop s.cfg.cap) := by
  by_cases hclk : s.tx.clk = 0
  · obtain ⟨-, hcarrier, htxf⟩ := (txRule_move s.tx.state s).tx_frame
    rw [txStep_boundary hclk]
    exact ⟨rfl, hcarrier, htxf⟩
  · rw [txStep_of_not_boundary hclk]
    exact ⟨rfl, rfl, .inl rfl⟩

/-! ## The rules of the RxFramer -/

/-- The state rule of the RxFramer that a state selects. -/
def rxRule (sym : Bool) : RxState → State → State
  | .carrier => rxCarrier sym
  | .wait => rxWait
  | .preamble => rxPreamble sym
  | .startBit => rxStartBit sym
  | .dataBit => rxDataBit sym
  | .stopBit => rxStopBit sym

/-- The state with the symbol shifted into `rx.sr` (R140 step 1). -/
def shifted (sym : Bool) (s : State) : State := s.setRx { s.rx with sr := shiftSymbol s.rx.sr sym }

/-- RXSTEP shifts the symbol in and runs the rule that `rx.state` selects (R140). -/
theorem rxStep_eq_rxRule (sym : Bool) (s : State) : rxStep sym s = rxRule sym s.rx.state (shifted sym s) := by
  unfold rxStep
  cases s.rx.state <;> rfl

/-- Each rule is the sub-operation of its name. -/
theorem exec_rxRule (sym : Bool) (r : RxState) (s : State) :
    exec (rxRuleOf sym r) s = .next (rxRule sym r s) := by
  cases r <;> rfl

/-- The outcomes of each rule of the RxFramer, with the conditions under which it takes them. -/
inductive RxMove (sym : Bool) (s : State) : RxState → State → Prop
  | searchLow (hsym : sym = false) : RxMove sym s .carrier (s.setRx { s.rx with cdCount := 0 })
  | searchBelow (hsym : sym = true) (hbelow : s.rx.cdCount.toNat + 1 < s.cfg.cdThresh) :
      RxMove sym s .carrier (s.setRx { s.rx with cdCount := BitVec.ofNat 16 (s.rx.cdCount.toNat + 1) })
  | searchFound (hsym : sym = true) (hreached : s.cfg.cdThresh ≤ s.rx.cdCount.toNat + 1) :
      RxMove sym s .carrier (s.setRx { s.rx with
        cdCount := BitVec.ofNat 16 (s.rx.cdCount.toNat + 1), carrier := true, state := .wait })
  | waitEdge (hedge : s.rx.sr = 0b10) :
      RxMove sym s .wait (s.setRx { s.rx with bitClock := 0, bitSum := 0, state := .preamble })
  | waitIdle (hidle : s.rx.sr ≠ 0b10) : RxMove sym s .wait s
  | preambleCount (hin : nextClock s < s.cfg.halfBit) : RxMove sym s .preamble (s.setRx (countSymbol sym s))
  | preambleReject (hend : s.cfg.halfBit ≤ nextClock s) (hhigh : s.cfg.eighthBit < nextSum sym s) :
      RxMove sym s .preamble (s.setRx { countSymbol sym s with state := .wait })
  | preambleAccept (hend : s.cfg.halfBit ≤ nextClock s) (hlow : nextSum sym s ≤ s.cfg.eighthBit) :
      RxMove sym s .preamble (s.setRx { countSymbol sym s with state := .startBit })
  | startCount (hin : nextClock s < s.cfg.bitLen) : RxMove sym s .startBit (s.setRx (countSymbol sym s))
  | startReject (hend : s.cfg.bitLen ≤ nextClock s) (hhigh : s.cfg.quarterBit < nextSum sym s) :
      RxMove sym s .startBit (s.setRx { countSymbol sym s with state := .wait })
  | startAccept (hend : s.cfg.bitLen ≤ nextClock s) (hlow : nextSum sym s ≤ s.cfg.quarterBit) :
      RxMove sym s .startBit (s.setRx { s.rx with state := .dataBit, bitSum := 0, bitClock := 0, bits := 0 })
  | dataCount (hin : nextClock s < s.cfg.bitLen) : RxMove sym s .dataBit (s.setRx (countSymbol sym s))
  | dataLast (hend : s.cfg.bitLen ≤ nextClock s) (hlast : s.cfg.dataBits ≤ s.rx.bits.toNat + 1) :
      RxMove sym s .dataBit (s.setRx { votedRx sym s with
        state := .stopBit, bitClock := BitVec.ofNat 16 s.cfg.halfBit })
  | dataMore (hend : s.cfg.bitLen ≤ nextClock s) (hmore : s.rx.bits.toNat + 1 < s.cfg.dataBits) :
      RxMove sym s .dataBit (s.setRx { votedRx sym s with bitClock := 0 })
  | stopCount (hin : nextClock s < s.cfg.bitLen) : RxMove sym s .stopBit (s.setRx (countSymbol sym s))
  | stopDeliver (hend : s.cfg.bitLen ≤ nextClock s) (hvalid : Delivers sym s) :
      RxMove sym s .stopBit
        ((s.setRx { countSymbol sym s with state := .wait }).setRxf (s.rxf.push s.cfg.cap (receivedByte s)))
  | stopDrop (hend : s.cfg.bitLen ≤ nextClock s) (hinvalid : ¬ Delivers sym s) :
      RxMove sym s .stopBit (s.setRx { countSymbol sym s with state := .wait })

/-- A move under its conditions is what the rule does. -/
theorem RxMove.eq {sym : Bool} {s t : State} {r : RxState} (h : RxMove sym s r t) : rxRule sym r s = t := by
  cases h with
  | searchLow hsym => exact hsym ▸ rxCarrier_of_low s
  | searchBelow hsym hbelow => exact hsym ▸ rxCarrier_of_below hbelow
  | searchFound hsym hreached => exact hsym ▸ rxCarrier_of_reached hreached
  | waitEdge hedge => exact rxWait_of_edge hedge
  | waitIdle hidle => exact rxWait_of_no_edge hidle
  | preambleCount hin => exact rxPreamble_of_inside hin
  | preambleReject hend hhigh => exact rxPreamble_of_reject hend hhigh
  | preambleAccept hend hlow => exact rxPreamble_of_accept hend hlow
  | startCount hin => exact rxStartBit_of_inside hin
  | startReject hend hhigh => exact rxStartBit_of_reject hend hhigh
  | startAccept hend hlow => exact rxStartBit_of_accept hend hlow
  | dataCount hin => exact rxDataBit_of_inside hin
  | dataLast hend hlast => exact rxDataBit_of_last hend hlast
  | dataMore hend hmore => exact rxDataBit_of_more hend hmore
  | stopCount hin => exact rxStopBit_of_inside hin
  | stopDeliver hend hvalid => exact rxStopBit_of_delivers hend hvalid
  | stopDrop hend hinvalid => exact rxStopBit_of_not_delivers hend hinvalid

/-- Every rule makes one of its moves. -/
theorem rxRule_move (sym : Bool) (r : RxState) (s : State) : RxMove sym s r (rxRule sym r s) := by
  have hmove : ∃ t, RxMove sym s r t := by
    cases r with
    | carrier =>
      cases hsym : sym with
      | false => exact ⟨_, .searchLow rfl⟩
      | true =>
        rcases Nat.lt_or_ge (s.rx.cdCount.toNat + 1) s.cfg.cdThresh with hbelow | hreached
        · exact ⟨_, .searchBelow rfl hbelow⟩
        · exact ⟨_, .searchFound rfl hreached⟩
    | wait =>
      by_cases hedge : s.rx.sr = 0b10
      · exact ⟨_, .waitEdge hedge⟩
      · exact ⟨_, .waitIdle hedge⟩
    | preamble =>
      rcases Nat.lt_or_ge (nextClock s) s.cfg.halfBit with hin | hend
      · exact ⟨_, .preambleCount hin⟩
      · rcases Nat.lt_or_ge s.cfg.eighthBit (nextSum sym s) with hhigh | hlow
        · exact ⟨_, .preambleReject hend hhigh⟩
        · exact ⟨_, .preambleAccept hend hlow⟩
    | startBit =>
      rcases Nat.lt_or_ge (nextClock s) s.cfg.bitLen with hin | hend
      · exact ⟨_, .startCount hin⟩
      · rcases Nat.lt_or_ge s.cfg.quarterBit (nextSum sym s) with hhigh | hlow
        · exact ⟨_, .startReject hend hhigh⟩
        · exact ⟨_, .startAccept hend hlow⟩
    | dataBit =>
      rcases Nat.lt_or_ge (nextClock s) s.cfg.bitLen with hin | hend
      · exact ⟨_, .dataCount hin⟩
      · rcases Nat.lt_or_ge (s.rx.bits.toNat + 1) s.cfg.dataBits with hmore | hlast
        · exact ⟨_, .dataMore hend hmore⟩
        · exact ⟨_, .dataLast hend hlast⟩
    | stopBit =>
      rcases Nat.lt_or_ge (nextClock s) s.cfg.bitLen with hin | hend
      · exact ⟨_, .stopCount hin⟩
      · by_cases hvalid : Delivers sym s
        · exact ⟨_, .stopDeliver hend hvalid⟩
        · exact ⟨_, .stopDrop hend hvalid⟩
  obtain ⟨t, ht⟩ := hmove
  rwa [ht.eq]

/-- A rule of the RxFramer writes `rx` and `RXF` only. -/
theorem RxMove.frame {sym : Bool} {s t : State} {r : RxState} (h : RxMove sym s r t) :
    t = { s with rx := t.rx, rxf := t.rxf } := by
  cases h <;> rfl

/-- A rule of the RxFramer leaves `rx.sr` and adds at most one byte to `RXF`, where there is room. -/
theorem RxMove.rx_frame {sym : Bool} {s t : State} {r : RxState} (h : RxMove sym s r t) :
    t.rx.sr = s.rx.sr ∧
    (t.rxf = s.rxf ∨ Delivers sym s ∧ t.rxf = s.rxf.push s.cfg.cap (receivedByte s)) := by
  cases h with
  | stopDeliver _ hvalid => exact ⟨rfl, .inr ⟨hvalid, rfl⟩⟩
  | _ => exact ⟨rfl, .inl rfl⟩

end Sys2Proof.Machine
end

section
/-! SUPPORT. The two halves of a TICK (`46_tick_and_control.md` R160, R161): each reads and writes its own half of the
state and the flags that both read, so a half runs the same beside any content of the other; the fields of the state a
TICK leaves; then the obligations that compare the halves. -/

namespace Sys2Proof.Machine

open Sys2Proof

/-! ## Two halves of the state -/

/-- `u` with what the transmit half of a TICK reads taken from `s`. -/
def State.withTxHalf (u s : State) : State :=
  { u with cfg := s.cfg, mode := s.mode, dir := s.dir, rev := s.rev, phase := s.phase, tx := s.tx, txf := s.txf }

/-- `u` with what the receive half of a TICK reads taken from `s`. -/
def State.withRxHalf (u s : State) : State :=
  { u with
    cfg := s.cfg, mode := s.mode, dir := s.dir, rev := s.rev, rx := s.rx, iir := s.iir, delay := s.delay,
    rxf := s.rxf }

/-- A rule of the TxFramer reads the transmit half only. -/
theorem TxMove.withTxHalf {s t : State} {r : TxState} (u : State) (h : TxMove s r t) :
    TxMove (u.withTxHalf s) r (u.withTxHalf t) := by
  cases h with
  | waitTake hgate => exact .waitTake hgate
  | waitHold hgate hon => exact .waitHold hgate hon
  | waitSilent hgate hcarrier hactive => exact .waitSilent hgate hcarrier hactive
  | preambleEnd hend => exact .preambleEnd hend
  | preambleMore hcarrier hmore => exact .preambleMore hcarrier hmore
  | startBit => exact .startBit
  | dataLast hlast => exact .dataLast hlast
  | dataMore hmore => exact .dataMore hmore
  | stopNext hback hgate => exact .stopNext hback hgate
  | stopTrail hend => exact .stopTrail hend
  | trailHold hover hcarrier => exact .trailHold hover hcarrier
  | trailOver hover hcarrier => exact .trailOver hover hcarrier
  | trailTake hmore hgate => exact .trailTake hmore hgate
  | trailLast hlast hgate hcarrier => exact .trailLast hlast hgate hcarrier
  | trailMore hmore hgate hmark => exact .trailMore hmore hgate hmark

/-- A rule of the RxFramer reads the receive half only. -/
theorem RxMove.withRxHalf {sym : Bool} {s t : State} {r : RxState} (u : State) (h : RxMove sym s r t) :
    RxMove sym (u.withRxHalf s) r (u.withRxHalf t) := by
  cases h with
  | searchLow hsym => exact .searchLow hsym
  | searchBelow hsym hbelow => exact .searchBelow hsym hbelow
  | searchFound hsym hreached => exact .searchFound hsym hreached
  | waitEdge hedge => exact .waitEdge hedge
  | waitIdle hidle => exact .waitIdle hidle
  | preambleCount hin => exact .preambleCount hin
  | preambleReject hend hhigh => exact .preambleReject hend hhigh
  | preambleAccept hend hlow => exact .preambleAccept hend hlow
  | startCount hin => exact .startCount hin
  | startReject hend hhigh => exact .startReject hend hhigh
  | startAccept hend hlow => exact .startAccept hend hlow
  | dataCount hin => exact .dataCount hin
  | dataLast hend hlast => exact .dataLast hend hlast
  | dataMore hend hmore => exact .dataMore hend hmore
  | stopCount hin => exact .stopCount hin
  | stopDeliver hend hvalid => exact .stopDeliver hend hvalid
  | stopDrop hend hinvalid => exact .stopDrop hend hinvalid

/-- TXSTEP reads the transmit half only. -/
theorem txStep_withTxHalf (u s : State) : txStep (u.withTxHalf s) = u.withTxHalf (txStep s) := by
  by_cases hclk : s.tx.clk = 0
  · have hrule : txRule s.tx.state (u.withTxHalf s) = u.withTxHalf (txRule s.tx.state s) :=
      ((txRule_move s.tx.state s).withTxHalf u).eq
    rw [txStep_boundary hclk, txStep_boundary (s := u.withTxHalf s) hclk]
    exact congrArg (fun t : State => t.setTx { t.tx with clk := nextTxClk s }) hrule
  · rw [txStep_of_not_boundary hclk, txStep_of_not_boundary (s := u.withTxHalf s) hclk]
    rfl

/-- The step of a symbol reads the transmit half only. -/
theorem stepFor_withTxHalf (u s : State) (sym : TxSym) : stepFor (u.withTxHalf s) sym = stepFor s sym := by
  cases sym <;> rfl

/-- The transmit half of a TICK reads the transmit half only, and drives the DAC. -/
theorem tickTx_withTxHalf (u s : State) :
    tickTx (u.withTxHalf s) = (u.withTxHalf (tickTx s)).setDac (tickTx s).dac := by
  unfold tickTx
  rw [txStep_withTxHalf]
  simp only [wave, stepFor_withTxHalf]
  rfl

/-- RXSTEP reads the receive half only. -/
theorem rxStep_withRxHalf (sym : Bool) (u s : State) :
    rxStep sym (u.withRxHalf s) = u.withRxHalf (rxStep sym s) := by
  rw [rxStep_eq_rxRule, rxStep_eq_rxRule]
  exact ((rxRule_move sym s.rx.state (shifted sym s)).withRxHalf u).eq

/-- The receive half of a TICK reads the receive half only. -/
theorem tickRx_withRxHalf (a : Byte) (u s : State) :
    tickRx a (u.withRxHalf s) = u.withRxHalf (tickRx a s) :=
  rxStep_withRxHalf (demodSymbol (demod a s)) u (demod a s)

/-- The transmit half writes `tx`, `phase`, `TXF` and `dac` only. -/
theorem tickTx_frame (s : State) :
    tickTx s = { s with
      tx := (tickTx s).tx, phase := (tickTx s).phase, txf := (tickTx s).txf, dac := (tickTx s).dac } := by
  unfold tickTx
  rw [txStep_frame]
  rfl

/-- The receive half writes `rx`, the taps, the delay line and `RXF` only. -/
theorem tickRx_frame (a : Byte) (s : State) :
    tickRx a s = { s with
      rx := (tickRx a s).rx, iir := (tickRx a s).iir, delay := (tickRx a s).delay, rxf := (tickRx a s).rxf } := by
  have h := rxStep_frame (demodSymbol (demod a s)) (demod a s)
  have hrx : tickRx a s = rxStep (demodSymbol (demod a s)) (demod a s) := rfl
  rw [hrx, h]
  rfl

/-- A TICK does to each half what its own part does, as if it were alone. -/
theorem tick_eq (a : Byte) (s : State) : tick a s = (tickTx s).withRxHalf (tickRx a s) := by
  have hsame : tickTx s = (tickTx s).withRxHalf s := by
    rw [tickTx_frame]
    rfl
  calc tickRx a (tickTx s) = tickRx a ((tickTx s).withRxHalf s) := by rw [← hsame]
    _ = (tickTx s).withRxHalf (tickRx a s) := tickRx_withRxHalf a _ _

/-- The halves of a TICK may run in either order (R161). -/
theorem tick_eq_rx_first (a : Byte) (s : State) : tick a s = tickTx (tickRx a s) := by
  have hsame : tickRx a s = (tickRx a s).withTxHalf s := by
    rw [tickRx_frame]
    rfl
  calc tick a s = (tickTx s).withRxHalf (tickRx a s) := tick_eq a s
    _ = ((tickRx a s).withTxHalf (tickTx s)).setDac (tickTx s).dac := by
        rw [tickTx_frame s, tickRx_frame a s]
        rfl
    _ = tickTx ((tickRx a s).withTxHalf s) := (tickTx_withTxHalf _ _).symm
    _ = tickTx (tickRx a s) := by rw [← hsame]

/-- Settles O25: the receive half, then the transmit half. -/
theorem tickHalvesCommute : Obligations.TickHalvesCommute := fun s a =>
  ⟨demod a s, tickRx a s, txStep (tickRx a s), tickTx (tickRx a s), rfl, rfl, rfl, rfl,
    congrArg Host.Outcome.next (tick_eq_rx_first a s)⟩

/-! ## What a TICK leaves in each field -/

/-- A TICK field by field: the transmit half's `tx`, `phase`, `TXF` and `dac`, the receive half's `rx`, taps, delay line
and `RXF`, and nothing else. -/
theorem tick_frame (a : Byte) (s : State) :
    tick a s = { s with
      tx := (txStep s).tx, phase := (tickTx s).phase, txf := (txStep s).txf, dac := (tickTx s).dac,
      rx := (rxStep (demodSymbol (demod a s)) (demod a s)).rx, iir := (demod a s).iir, delay := (demod a s).delay,
      rxf := (rxStep (demodSymbol (demod a s)) (demod a s)).rxf } := by
  have hrx : tickRx a s = rxStep (demodSymbol (demod a s)) (demod a s) := rfl
  rw [tick_eq, tickTx_frame, hrx, rxStep_frame]
  rfl

/-- Two states that agree on what the transmit half reads get the same transmit half from a TICK. -/
theorem tickTx_agree {s u : State} (hcfg : s.cfg = u.cfg) (hmode : s.mode = u.mode) (hdir : s.dir = u.dir)
    (hrev : s.rev = u.rev) (htx : s.tx = u.tx) (hphase : s.phase = u.phase) (htxf : s.txf = u.txf) :
    tickTx u = (u.withTxHalf (tickTx s)).setDac (tickTx s).dac := by
  have hsame : u = u.withTxHalf s := by
    simp only [State.withTxHalf, hcfg, hmode, hdir, hrev, htx, hphase, htxf]
  calc tickTx u = tickTx (u.withTxHalf s) := by rw [← hsame]
    _ = _ := tickTx_withTxHalf u s

/-- Two states that agree on what the receive half reads get the same receive half from a TICK. -/
theorem tickRx_agree {s u : State} (a : Byte) (hcfg : s.cfg = u.cfg) (hmode : s.mode = u.mode) (hdir : s.dir = u.dir)
    (hrev : s.rev = u.rev) (hrx : s.rx = u.rx) (hiir : s.iir = u.iir) (hdelay : s.delay = u.delay)
    (hrxf : s.rxf = u.rxf) : tickRx a u = u.withRxHalf (tickRx a s) := by
  have hsame : u = u.withRxHalf s := by
    simp only [State.withRxHalf, hcfg, hmode, hdir, hrev, hrx, hiir, hdelay, hrxf]
  calc tickRx a u = tickRx a (u.withRxHalf s) := by rw [← hsame]
    _ = _ := tickRx_withRxHalf a u s

/-- The transmit fields of a TICK's result are those of its transmit half. -/
theorem tick_txHalf (a : Byte) (s : State) :
    (tick a s).tx = (tickTx s).tx ∧ (tick a s).phase = (tickTx s).phase ∧ (tick a s).txf = (tickTx s).txf ∧
    (tick a s).dac = (tickTx s).dac := by
  rw [tick_eq]
  exact ⟨rfl, rfl, rfl, rfl⟩

/-- The receive fields of a TICK's result are those of its receive half. -/
theorem tick_rxHalf (a : Byte) (s : State) :
    (tick a s).rx = (tickRx a s).rx ∧ (tick a s).iir = (tickRx a s).iir ∧ (tick a s).delay = (tickRx a s).delay ∧
    (tick a s).rxf = (tickRx a s).rxf := by
  rw [tick_eq]
  exact ⟨rfl, rfl, rfl, rfl⟩

/-- Settles O26: each half of the two results comes from its own half of the two states. -/
theorem tickHalvesDoNotInterfere : Obligations.TickHalvesDoNotInterfere := by
  intro s u s' u' a b hs hu hcfg hmode hdir hrev
  obtain rfl : tick a s = s' := Host.Outcome.next.inj hs
  obtain rfl : tick b u = u' := Host.Outcome.next.inj hu
  refine ⟨fun htx hphase htxf => ?_, ?_⟩
  · have hs := tick_txHalf a s
    have hu := tick_txHalf b u
    rw [tickTx_agree hcfg hmode hdir hrev htx hphase htxf] at hu
    obtain ⟨htx', hphase', htxf', hdac'⟩ := hu
    rw [htx', hphase', htxf', hdac']
    exact hs
  · rintro rfl hrx hiir hdelay hrxf
    have hs := tick_rxHalf a s
    have hu := tick_rxHalf a u
    rw [tickRx_agree a hcfg hmode hdir hrev hrx hiir hdelay hrxf] at hu
    obtain ⟨hrx', hiir', hdelay', hrxf'⟩ := hu
    rw [hrx', hiir', hdelay', hrxf']
    exact hs

/-- What the environment presents later shows in no operation of a TICK (R38). -/
theorem tick_setInputs (a : Byte) (s : State) (l : List PortInput) :
    tick a (s.setInputs l) = (tick a s).setInputs l := by
  have htx : tickTx (s.setInputs l) = (tickTx s).setInputs l := by
    rw [tickTx_agree (s := s) (u := s.setInputs l) rfl rfl rfl rfl rfl rfl rfl, tickTx_frame]
    rfl
  have hrx : tickRx a ((tickTx s).setInputs l) = (tickRx a (tickTx s)).setInputs l := by
    rw [tickRx_agree (s := tickTx s) (u := (tickTx s).setInputs l) a rfl rfl rfl rfl rfl rfl rfl rfl, tickRx_frame]
    rfl
  calc tickRx a (tickTx (s.setInputs l)) = tickRx a ((tickTx s).setInputs l) := by rw [htx]
    _ = _ := hrx

end Sys2Proof.Machine
end

section
/-! SUPPORT. The step at the ports (`00_scope.md` R5, `30_encoding.md` R50, `60_exceptions.md` R188, R196): what it does
with each kind of event; then the obligations on steps, ports and the reset pin. -/

namespace Sys2Proof.Machine

open Sys2Proof

/-- Settles O57. -/
theorem everyOperationCompletes : Obligations.EveryOperationCompletes := exec_total

/-- Settles O4: the next fetch takes the word, and `step` runs what it decodes to. -/
theorem stepRunsTheDecodedOperation : Obligations.StepRunsTheDecodedOperation := by
  intro s w i rest hc hdec
  refine ⟨(encode_of_decode hdec).2, fun hin => ?_, ?_⟩
  · rw [step_of_fetch_op (fetch_inputOf hin) hc, runWord_of_decode hdec]
    rfl
  · rw [step_of_fetch_op (fetch_presentWord w s) hc, runWord_of_decode hdec]

/-- A strobe that comes with a command is taken first, and the command stays to come. -/
theorem fetch_strobe_command {s : State} {a : Byte} {w : Word} {rest : List PortInput}
    (hin : s.inputs = { adc := some a, cmd := some w } :: rest) :
    fetch s = .op (.tick a) (s.setInputs ({ cmd := some w } :: rest)) := by
  simp only [fetch, hin]

/-- A command put before the inputs to come is the next step's operation. -/
theorem step_of_command_first {t : State} {w : Word} {i : Instr} (hc : t.cfg.wf = true)
    (hdec : decode (.command w) = .op i) : step (t.setInputs ({ cmd := some w } :: t.inputs)) = exec i t := by
  obtain ⟨-, -, hpresented⟩ := stepRunsTheDecodedOperation t (.command w) i t.inputs hc hdec
  exact hpresented

/-- Settles O5: the first step is the TICK, which neither reads nor writes the inputs, so that the second fetches the
command. -/
theorem strobeWithCommandIsTickFirst : Obligations.StrobeWithCommandIsTickFirst := by
  intro s a w rest hc hin
  obtain ⟨t, ht⟩ : ∃ t, t = tick a (s.setInputs rest) := ⟨_, rfl⟩
  have hcfg : t.cfg = s.cfg := by
    rw [ht, tick_frame]
    rfl
  have hinputs : t.inputs = rest := by
    rw [ht, tick_frame]
    rfl
  refine ⟨t, congrArg Host.Outcome.next ht.symm, ?_, fun i hdec => ?_⟩
  · rw [step_of_fetch_op (fetch_strobe_command hin) hc]
    exact congrArg Host.Outcome.next ((tick_setInputs a (s.setInputs rest) _).trans (by rw [← ht]; rfl))
  · have hstep := step_of_command_first (hcfg ▸ hc) hdec
    rwa [hinputs] at hstep

/-- Settles O6: `rst` is fetched whatever comes with it, and the state at release is `State.resetWith`. -/
theorem resetPinGivesTheResetState : Obligations.ResetPinGivesTheResetState := by
  intro s c a w rest hc hin
  have hfetch : fetch s = .reset c (s.setInputs rest) := by simp only [fetch, hin]
  have hstep : step s = .next (releaseReset c (s.setInputs rest)) := by simp only [step, hfetch, hc, if_true]
  have hdelay : (releaseReset c (s.setInputs rest)).delay.toList = List.replicate c.tone1.qlen 128 :=
    DelayLine.quiet_toList _ (Cfg.wf_qlen_pos hc).2
  exact ⟨_, hstep, rfl, rfl, rfl, rfl, rfl, rfl, rfl, rfl, rfl, rfl, rfl, rfl, rfl, rfl, rfl, rfl, rfl, rfl, rfl, rfl,
    rfl, rfl, rfl, rfl, rfl, hdelay, rfl, rfl, rfl, rfl, rfl, rfl⟩

/-- Settles O7: in both cases the fetch is quiet. -/
theorem quietPortsFreezeTheState : Obligations.QuietPortsFreezeTheState := by
  refine ⟨fun s hin => ?_, fun s rest hin => ?_⟩
  · have hfetch : fetch s = .quiet s := by simp only [fetch, hin]
    simp only [step, hfetch]
  · have hfetch : fetch s = .quiet (s.setInputs rest) := by simp only [fetch, hin]
    simp only [step, hfetch]
    rfl

/-- Settles O8: the check of the configuration comes before the word and before the release. -/
theorem illFormedConfigurationsAreRefused : Obligations.IllFormedConfigurationsAreRefused := by
  refine ⟨fun s w rest hc hin => ?_, fun s c rest hc hin => ?_⟩
  · simp only [step, fetch_inputOf hin, State.setInputs_cfg, hc, Bool.false_eq_true, if_false]
  · have hfetch : fetch s = .reset c (s.setInputs rest) := by simp only [fetch, hin]
    simp only [step, hfetch, hc, Bool.false_eq_true, if_false]

end Sys2Proof.Machine
end

section
/-! SUPPORT. Runs of TICKs and of symbols as folds, and what such a run keeps (`30_encoding.md` R59). -/

namespace Sys2Proof.Machine

open Sys2Proof

/-- The state after a TICK for each sample of a list. -/
def ticks (as : List Byte) (s : State) : State := as.foldl (fun u a => tick a u) s

/-- The state after an RXSTEP for each symbol of a list. -/
def symbols (syms : List Bool) (s : State) : State := syms.foldl (fun u b => rxStep b u) s

/-- A sequence of one operation over a list of operands folds its meaning. -/
theorem execAll_map {α : Type} {f : α → Instr} {g : α → State → State} (h : ∀ x u, exec (f x) u = .next (g x u))
    (xs : List α) (s : State) : execAll (xs.map f) s = .next (xs.foldl (fun u x => g x u) s) := by
  induction xs generalizing s with
  | nil => rfl
  | cons x xs ih => simp only [List.map_cons, execAll, h, ih, List.foldl_cons]

theorem execAll_ticks (as : List Byte) (s : State) : execAll (as.map Instr.tick) s = .next (ticks as s) :=
  execAll_map (fun _ _ => rfl) as s

theorem execAll_symbols (syms : List Bool) (s : State) :
    execAll (syms.map Instr.rxstep) s = .next (symbols syms s) :=
  execAll_map (fun _ _ => rfl) syms s

@[simp] theorem symbols_cons (b : Bool) (syms : List Bool) (s : State) :
    symbols (b :: syms) s = symbols syms (rxStep b s) := rfl

@[simp] theorem symbols_append (xs ys : List Bool) (s : State) :
    symbols (xs ++ ys) s = symbols ys (symbols xs s) := List.foldl_append

/-- What every TICK keeps, any number of TICKs keeps. -/
theorem ticks_keep {P : State → Prop} (hP : ∀ a u, P u → P (tick a u)) (as : List Byte) {s : State} (h : P s) :
    P (ticks as s) := by
  induction as generalizing s with
  | nil => exact h
  | cons a as ih => exact ih (hP a s h)

/-- What every TICK takes from its count `n` to `n + 1`, a run of TICKs takes on by its length. -/
theorem ticks_count {P : Nat → State → Prop} (hP : ∀ n a u, P n u → P (n + 1) (tick a u)) (as : List Byte) {n : Nat}
    {s : State} (h : P n s) : P (n + as.length) (ticks as s) := by
  induction as generalizing n s with
  | nil => exact h
  | cons a as ih =>
    rw [List.length_cons, Nat.add_comm as.length, ← Nat.add_assoc]
    exact ih (hP n a s h)

end Sys2Proof.Machine
end

section
/-! SUPPORT. The rights of the two agents (`60_exceptions.md` R190, `10_state.md` R13, R14, R17): what a command leaves,
what a TICK leaves, and which operations write each control bit; then the obligations about them. -/

namespace Sys2Proof.Machine

open Sys2Proof

/-! ## Commands (R190) -/

/-- What a host command may not write, and what it may write into the receive half. -/
structure CommandFrame (s t : State) : Prop where
  cfg : t.cfg = s.cfg
  inputs : t.inputs = s.inputs
  phase : t.phase = s.phase
  tx : t.tx = { s.tx with carrier := t.tx.carrier }
  dac : t.dac = s.dac
  txfRd : t.txf.rd = s.txf.rd
  rxfWr : t.rxf.wr = s.rxf.wr
  rxfBuf : t.rxf.buf = s.rxf.buf
  rx : t.rx = s.rx ∨ t.rx = { s.rx.cleared with state := .carrier, carrier := false } ∨
    t.rx = { s.rx.cleared with state := .wait, carrier := true }
  iir : t.iir = s.iir ∨ t.iir = IirTaps.zero
  delay : t.delay = s.delay ∨ ∀ b ∈ t.delay.toList, b = bias

/-- Every sample of a quiet delay line is the bias. -/
theorem DelayLine.mem_quiet {n : Nat} {b : Byte} (h : b ∈ (DelayLine.quiet n).toList) : b = bias := by
  rcases List.mem_cons.1 h with rfl | h
  · rfl
  · exact List.eq_of_mem_replicate h

/-- An operation that only drives `rsp` is within the rights of a command. -/
theorem CommandFrame.setRsp (s : State) (v : Word) : CommandFrame s (s.setRsp v) :=
  ⟨rfl, rfl, rfl, rfl, rfl, rfl, rfl, rfl, .inl rfl, .inl rfl, .inl rfl⟩

/-- Every host command keeps within these rights. -/
theorem exec_command_frame {i : Instr} {s t : State} (hwf : i.wf = true) (hcmd : isTick i = false)
    (h : exec i s = .next t) : CommandFrame s t := by
  cases i with
  | nop | status | txlen | rxlen => exact Host.Outcome.next.inj h ▸ CommandFrame.setRsp s _
  | reservedA | reservedB | reservedC | reservedD | reservedE | reservedF =>
    exact Host.Outcome.next.inj h ▸ CommandFrame.setRsp s _
  | pushtx v =>
    rcases Fifo.enqueue_cases s.cfg.cap s.txf v with ⟨-, henq⟩ | ⟨-, henq⟩ <;>
      rw [exec_pushtx henq] at h <;> rw [← Host.Outcome.next.inj h] <;>
      exact ⟨rfl, rfl, rfl, rfl, rfl, rfl, rfl, rfl, .inl rfl, .inl rfl, .inl rfl⟩
  | poprx =>
    obtain ⟨-, hpop⟩ := poprxTakesTheOldestByte
    by_cases hempty : s.rxf.wr = s.rxf.rd
    · rw [(hpop s).1 hempty] at h
      exact Host.Outcome.next.inj h ▸ CommandFrame.setRsp s 0
    · rw [(hpop s).2 hempty] at h
      rw [← Host.Outcome.next.inj h]
      exact ⟨rfl, rfl, rfl, rfl, rfl, rfl, rfl, rfl, .inl rfl, .inl rfl, .inl rfl⟩
  | setdir d r =>
    rw [exec_setdir] at h
    rw [← Host.Outcome.next.inj h]
    exact ⟨rfl, rfl, rfl, rfl, rfl, rfl, rfl, rfl, .inr (.inl rfl), .inr rfl, .inr fun _ => DelayLine.mem_quiet⟩
  | setline b =>
    rw [← Host.Outcome.next.inj h]
    exact ⟨rfl, rfl, rfl, rfl, rfl, rfl, rfl, rfl, .inl rfl, .inl rfl, .inl rfl⟩
  | txcarrier b =>
    rw [← Host.Outcome.next.inj h]
    exact ⟨rfl, rfl, rfl, rfl, rfl, rfl, rfl, rfl, .inl rfl, .inl rfl, .inl rfl⟩
  | rxcarrier b => cases b with
    | true =>
      rw [← Host.Outcome.next.inj h]
      exact ⟨rfl, rfl, rfl, rfl, rfl, rfl, rfl, rfl, .inr (.inr rfl), .inl rfl, .inl rfl⟩
    | false =>
      rw [← Host.Outcome.next.inj h]
      exact ⟨rfl, rfl, rfl, rfl, rfl, rfl, rfl, rfl, .inr (.inl rfl), .inr rfl, .inl rfl⟩
  | tick => exact absurd hcmd.symm Bool.false_ne_true
  | _ => exact absurd hwf Bool.false_ne_true

/-! ## TICKs (R190) -/

/-- What a TICK may not write. -/
structure TickFrame (s t : State) : Prop where
  cfg : t.cfg = s.cfg
  inputs : t.inputs = s.inputs
  mode : t.mode = s.mode
  dir : t.dir = s.dir
  rev : t.rev = s.rev
  txCarrier : t.tx.carrier = s.tx.carrier
  txf : t.txf = { s.txf with rd := t.txf.rd }
  rxf : t.rxf = { s.rxf with buf := t.rxf.buf, wr := t.rxf.wr }
  rsp : t.rsp = s.rsp

/-- RXSTEP writes nothing of `RXF` but the buffer and `wr`. -/
theorem rxStep_rxf_frame (sym : Bool) (s : State) :
    (rxStep sym s).rxf = { s.rxf with buf := (rxStep sym s).rxf.buf, wr := (rxStep sym s).rxf.wr } := by
  rw [rxStep_eq_rxRule]
  obtain ⟨-, hrxf | ⟨-, hrxf⟩⟩ := (rxRule_move sym s.rx.state (shifted sym s)).rx_frame
  · rw [hrxf]
    rfl
  · rw [hrxf]
    rfl

/-- Every TICK keeps within these rights. -/
theorem tick_rights (a : Byte) (s : State) : TickFrame s (tick a s) := by
  obtain ⟨-, hcarrier, htxf⟩ := txStep_tx_frame s
  rw [tick_frame]
  refine ⟨rfl, rfl, rfl, rfl, rfl, hcarrier, ?_, rxStep_rxf_frame _ (demod a s), rfl⟩
  show (txStep s).txf = { s.txf with rd := (txStep s).txf.rd }
  rcases htxf with htxf | ⟨-, htxf⟩
  · rw [htxf]
  · rw [htxf]
    rfl

/-- Settles O56, for commands and for TICKs. -/
theorem agentsKeepTheirRights : Obligations.AgentsKeepTheirRights := by
  intro i s t hwf hexec
  cases htick : isTick i with
  | false =>
    have h := exec_command_frame hwf htick hexec
    exact ⟨h.cfg, h.inputs, fun _ => ⟨h.phase, h.tx, h.dac, h.txfRd, h.rxfWr, h.rxfBuf, h.rx, h.iir, h.delay⟩,
      fun hno => absurd hno Bool.false_ne_true⟩
  | true =>
    obtain ⟨a, rfl⟩ := eq_tick_of_isTick htick
    obtain rfl : tick a s = t := Host.Outcome.next.inj hexec
    have h := tick_rights a s
    exact ⟨h.cfg, h.inputs, fun hno => absurd hno.symm Bool.false_ne_true,
      fun _ => ⟨h.mode, h.dir, h.rev, h.txCarrier, h.txf, h.rxf, h.rsp⟩⟩

/-! ## The carrier flag of the receiver (R149, R183) -/

/-- No rule of the RxFramer loses a declared carrier, and only CARRIER on a HIGH symbol declares one. -/
theorem RxMove.carrier {sym : Bool} {s t : State} {r : RxState} (h : RxMove sym s r t) :
    (s.rx.carrier = true → t.rx.carrier = true) ∧
    (s.rx.carrier = false → t.rx.carrier = true → r = .carrier ∧ sym = true) := by
  cases h with
  | searchFound hsym => exact ⟨fun _ => rfl, fun _ _ => ⟨rfl, hsym⟩⟩
  | _ => exact ⟨id, fun hoff hon => absurd (hoff.symm.trans hon) Bool.false_ne_true⟩

/-- No rule of the RxFramer but CARRIER leads to CARRIER. -/
theorem RxMove.state_ne_carrier {sym : Bool} {s t : State} {r : RxState} (h : RxMove sym s r t)
    (hr : s.rx.state = r) (hne : r ≠ .carrier) : t.rx.state ≠ .carrier := by
  cases h with
  | searchLow | searchBelow | searchFound => exact absurd rfl hne
  | waitIdle | preambleCount | startCount | dataCount | dataMore | stopCount => exact hr.trans_ne hne
  | _ => exact RxState.noConfusion

/-- A TICK keeps a declared carrier. -/
theorem tick_rx_carrier (a : Byte) (s : State) (h : s.rx.carrier = true) : (tick a s).rx.carrier = true := by
  rw [tick_frame, rxStep_eq_rxRule]
  exact (rxRule_move _ _ _).carrier.1 h

/-- A TICK does not lead back to carrier search. -/
theorem tick_rx_state_ne_carrier (a : Byte) (s : State) (h : s.rx.state ≠ .carrier) :
    (tick a s).rx.state ≠ .carrier := by
  rw [tick_frame, rxStep_eq_rxRule]
  exact (rxRule_move _ s.rx.state (shifted _ (demod a s))).state_ne_carrier rfl h

/-- Settles O59: both facts hold of each TICK. -/
theorem ticksNeverLoseTheCarrier : Obligations.TicksNeverLoseTheCarrier := fun s as =>
  ⟨ticks as s, execAll_ticks as s, ticks_keep tick_rx_carrier as, ticks_keep tick_rx_state_ne_carrier as⟩

/-! ## The writers of each control bit (R13, R14) -/

/-- Only WAIT turns `tx.active` ON, and only TRAIL turns it OFF. -/
theorem TxMove.active {s t : State} {r : TxState} (h : TxMove s r t) :
    (s.tx.active = false → t.tx.active = true → r = .wait) ∧
    (s.tx.active = true → t.tx.active = false → r = .trail) := by
  cases h with
  | waitTake => exact ⟨fun _ _ => rfl, fun _ hoff => absurd hoff.symm Bool.false_ne_true⟩
  | trailOver => exact ⟨fun _ hon => absurd hon Bool.false_ne_true, fun _ _ => rfl⟩
  | _ =>
    exact ⟨fun hoff hon => absurd (hoff.symm.trans hon) Bool.false_ne_true,
      fun hon hoff => absurd (hoff.symm.trans hon) Bool.false_ne_true⟩

/-- The change from `s` to `t` by operation `i` is within the writers that `10_state.md` section 3 names. -/
structure WrittenByWriters (i : Instr) (s t : State) : Prop where
  mode : t.mode ≠ s.mode → i = .setline t.mode
  dirRev : (t.dir ≠ s.dir ∨ t.rev ≠ s.rev) → i = .setdir t.dir t.rev
  txCarrier : t.tx.carrier ≠ s.tx.carrier → i = .txcarrier t.tx.carrier
  activeOn : s.tx.active = false → t.tx.active = true → isTick i = true ∨ i = .txstep ∨ i = .txstepWait
  activeOff : s.tx.active = true → t.tx.active = false → isTick i = true ∨ i = .txstep ∨ i = .txstepTrail
  rxCarrierOn : s.rx.carrier = false → t.rx.carrier = true →
    isTick i = true ∨ i = .rxstep true ∨ i = .rxstepCarrier true ∨ i = .rxcarrier true
  rxCarrierOff : s.rx.carrier = true → t.rx.carrier = false → i = .rxcarrier false ∨ i = .setdir t.dir t.rev

/-- A flag that stays is not turned ON. -/
theorem not_turned_on {p q : Bool} {C : Prop} (heq : q = p) (hoff : p = false) (hon : q = true) : C :=
  absurd (hoff.symm.trans (heq.symm.trans hon)) Bool.false_ne_true

/-- A flag that stays is not turned OFF. -/
theorem not_turned_off {p q : Bool} {C : Prop} (heq : q = p) (hon : p = true) (hoff : q = false) : C :=
  absurd (hoff.symm.trans (heq.trans hon)) Bool.false_ne_true

/-- No control bit changes. -/
theorem WrittenByWriters.of_kept {i : Instr} {s t : State} (hmode : t.mode = s.mode) (hdir : t.dir = s.dir)
    (hrev : t.rev = s.rev) (hcarrier : t.tx.carrier = s.tx.carrier) (hactive : t.tx.active = s.tx.active)
    (hrx : t.rx.carrier = s.rx.carrier) : WrittenByWriters i s t where
  mode hne := absurd hmode hne
  dirRev hne := (hne.elim (absurd hdir) (absurd hrev))
  txCarrier hne := absurd hcarrier hne
  activeOn := not_turned_on hactive
  activeOff := not_turned_off hactive
  rxCarrierOn := not_turned_on hrx
  rxCarrierOff := not_turned_off hrx

/-- An operation that only drives `rsp` writes none of them. -/
theorem WrittenByWriters.setRsp (i : Instr) (s : State) (v : Word) : WrittenByWriters i s (s.setRsp v) :=
  .of_kept rfl rfl rfl rfl rfl rfl

/-- A change of the transmit half that leaves `tx.carrier` writes at most `tx.active` of the control bits. -/
theorem WrittenByWriters.of_tx {i : Instr} {s t : State} (hframe : t = { s with
      tx := t.tx, phase := t.phase, txf := t.txf }) (hcarrier : t.tx.carrier = s.tx.carrier)
    (hon : s.tx.active = false → t.tx.active = true → isTick i = true ∨ i = .txstep ∨ i = .txstepWait)
    (hoff : s.tx.active = true → t.tx.active = false → isTick i = true ∨ i = .txstep ∨ i = .txstepTrail) :
    WrittenByWriters i s t where
  mode hne := absurd (by rw [hframe]) hne
  dirRev hne := hne.elim (absurd (by rw [hframe])) (absurd (by rw [hframe]))
  txCarrier hne := absurd hcarrier hne
  activeOn := hon
  activeOff := hoff
  rxCarrierOn := not_turned_on (by rw [hframe])
  rxCarrierOff := not_turned_off (by rw [hframe])

/-- A rule of the TxFramer keeps to the writers. -/
theorem TxMove.writers {s t : State} {r : TxState} (h : TxMove s r t) : WrittenByWriters (txRuleOf r) s t := by
  obtain ⟨hon, hoff⟩ := h.active
  obtain ⟨-, hcarrier, -⟩ := h.tx_frame
  refine .of_tx h.frame hcarrier (fun h h' => .inr (.inr ?_)) (fun h h' => .inr (.inr ?_))
  · rw [hon h h']
    rfl
  · rw [hoff h h']
    rfl

/-- TXSTEP keeps to the writers. -/
theorem txStep_writers (s : State) : WrittenByWriters .txstep s (txStep s) := by
  obtain ⟨-, hcarrier, -⟩ := txStep_tx_frame s
  exact .of_tx (txStep_frame s) hcarrier (fun _ _ => .inr (.inl rfl)) (fun _ _ => .inr (.inl rfl))

/-- A TICK writes at most `tx.active`, and `rx.carrier` to ON. -/
theorem tick_writers (a : Byte) (s : State) : WrittenByWriters (.tick a) s (tick a s) := by
  have h := tick_rights a s
  exact {
    mode := fun hne => absurd h.mode hne
    dirRev := fun hne => hne.elim (absurd h.dir) (absurd h.rev)
    txCarrier := fun hne => absurd h.txCarrier hne
    activeOn := fun _ _ => .inl rfl
    activeOff := fun _ _ => .inl rfl
    rxCarrierOn := fun _ _ => .inl rfl
    rxCarrierOff := fun hon => not_turned_off ((tick_rx_carrier a s hon).trans hon.symm) hon }

/-- A change of `rx` and `RXF` that keeps a declared carrier writes at most `rx.carrier` of the control bits. -/
theorem WrittenByWriters.of_rx {i : Instr} {s t : State} (hframe : t = { s with rx := t.rx, rxf := t.rxf })
    (hkeep : s.rx.carrier = true → t.rx.carrier = true)
    (hon : s.rx.carrier = false → t.rx.carrier = true → i = .rxstep true ∨ i = .rxstepCarrier true) :
    WrittenByWriters i s t where
  mode hne := absurd (by rw [hframe]) hne
  dirRev hne := hne.elim (absurd (by rw [hframe])) (absurd (by rw [hframe]))
  txCarrier hne := absurd (by rw [hframe]) hne
  activeOn := not_turned_on (by rw [hframe])
  activeOff := not_turned_off (by rw [hframe])
  rxCarrierOn h h' := .inr ((hon h h').imp_right .inl)
  rxCarrierOff h := not_turned_off ((hkeep h).trans h.symm) h

/-- A rule of the RxFramer keeps to the writers. -/
theorem RxMove.writers {sym : Bool} {s t : State} {r : RxState} (h : RxMove sym s r t) :
    WrittenByWriters (rxRuleOf sym r) s t := by
  obtain ⟨hkeep, hon⟩ := h.carrier
  refine .of_rx h.frame hkeep fun h h' => ?_
  obtain ⟨rfl, rfl⟩ := hon h h'
  exact .inr rfl

/-- RXSTEP keeps to the writers. -/
theorem rxStep_writers (sym : Bool) (s : State) : WrittenByWriters (.rxstep sym) s (rxStep sym s) := by
  have hmove := rxRule_move sym s.rx.state (shifted sym s)
  rw [← rxStep_eq_rxRule] at hmove
  obtain ⟨hkeep, hon⟩ := hmove.carrier
  exact .of_rx (rxStep_frame sym s) hkeep fun h h' => .inl (by rw [(hon h h').2])

/-- A sub-operation of TXSTEP keeps to the writers. -/
theorem exec_txRule_writers (r : TxState) {s t : State} (h : exec (txRuleOf r) s = .next t) :
    WrittenByWriters (txRuleOf r) s t := by
  rw [exec_txRule] at h
  exact Host.Outcome.next.inj h ▸ (txRule_move r s).writers

/-- A sub-operation of RXSTEP keeps to the writers. -/
theorem exec_rxRule_writers (sym : Bool) (r : RxState) {s t : State} (h : exec (rxRuleOf sym r) s = .next t) :
    WrittenByWriters (rxRuleOf sym r) s t := by
  rw [exec_rxRule] at h
  exact Host.Outcome.next.inj h ▸ (rxRule_move sym r s).writers

/-- Every operation keeps to the writers of `10_state.md` section 3. -/
theorem exec_writers {i : Instr} {s t : State} (h : exec i s = .next t) : WrittenByWriters i s t := by
  cases i with
  | nop | status | txlen | rxlen => exact Host.Outcome.next.inj h ▸ .setRsp _ s _
  | reservedA | reservedB | reservedC | reservedD | reservedE | reservedF =>
    exact Host.Outcome.next.inj h ▸ .setRsp _ s _
  | wave =>
    rw [exec_wave] at h
    exact Host.Outcome.next.inj h ▸ .of_kept rfl rfl rfl rfl rfl rfl
  | demod a =>
    rw [← Host.Outcome.next.inj h]
    exact .of_kept rfl rfl rfl rfl rfl rfl
  | pushtx v =>
    rw [exec_pushtx rfl] at h
    rw [← Host.Outcome.next.inj h]
    exact .of_kept rfl rfl rfl rfl rfl rfl
  | poprx =>
    obtain ⟨-, hpop⟩ := poprxTakesTheOldestByte
    by_cases hempty : s.rxf.wr = s.rxf.rd
    · rw [(hpop s).1 hempty] at h
      exact Host.Outcome.next.inj h ▸ .setRsp _ s 0
    · rw [(hpop s).2 hempty] at h
      rw [← Host.Outcome.next.inj h]
      exact .of_kept rfl rfl rfl rfl rfl rfl
  | setdir d r =>
    rw [exec_setdir] at h
    rw [← Host.Outcome.next.inj h]
    exact { WrittenByWriters.of_kept (i := .setdir d r) (t := s) rfl rfl rfl rfl rfl rfl with
      dirRev := fun _ => rfl
      rxCarrierOn := fun _ hon => absurd hon Bool.false_ne_true
      rxCarrierOff := fun _ _ => .inr rfl }
  | setline b =>
    rw [← Host.Outcome.next.inj h]
    exact { WrittenByWriters.of_kept (i := .setline b) (t := s) rfl rfl rfl rfl rfl rfl with mode := fun _ => rfl }
  | txcarrier b =>
    rw [← Host.Outcome.next.inj h]
    exact { WrittenByWriters.of_kept (i := .txcarrier b) (t := s) rfl rfl rfl rfl rfl rfl with
      txCarrier := fun _ => rfl }
  | rxcarrier b => cases b with
    | true =>
      rw [← Host.Outcome.next.inj h]
      exact { WrittenByWriters.of_kept (i := .rxcarrier true) (t := s) rfl rfl rfl rfl rfl rfl with
        rxCarrierOn := fun _ _ => .inr (.inr (.inr rfl))
        rxCarrierOff := fun _ hoff => absurd hoff.symm Bool.false_ne_true }
    | false =>
      rw [← Host.Outcome.next.inj h]
      exact { WrittenByWriters.of_kept (i := .rxcarrier false) (t := s) rfl rfl rfl rfl rfl rfl with
        rxCarrierOn := fun _ hon => absurd hon Bool.false_ne_true
        rxCarrierOff := fun _ _ => .inl rfl }
  | tick a =>
    obtain rfl := Host.Outcome.next.inj h
    exact tick_writers a s
  | txstep =>
    obtain rfl := Host.Outcome.next.inj h
    exact txStep_writers s
  | txstepWait => exact exec_txRule_writers .wait h
  | txstepPreamble => exact exec_txRule_writers .preamble h
  | txstepStartBit => exact exec_txRule_writers .startBit h
  | txstepDataBit => exact exec_txRule_writers .dataBit h
  | txstepStopBit => exact exec_txRule_writers .stopBit h
  | txstepTrail => exact exec_txRule_writers .trail h
  | rxstep sym =>
    obtain rfl := Host.Outcome.next.inj h
    exact rxStep_writers sym s
  | rxstepCarrier sym => exact exec_rxRule_writers sym .carrier h
  | rxstepWait => exact exec_rxRule_writers false .wait h
  | rxstepPreamble sym => exact exec_rxRule_writers sym .preamble h
  | rxstepStartBit sym => exact exec_rxRule_writers sym .startBit h
  | rxstepDataBit sym => exact exec_rxRule_writers sym .dataBit h
  | rxstepStopBit sym => exact exec_rxRule_writers sym .stopBit h

/-- Settles O58. -/
theorem controlBitsChangeOnlyByTheirWriters : Obligations.ControlBitsChangeOnlyByTheirWriters := by
  intro i s t hexec
  have h := exec_writers hexec
  exact ⟨h.mode, h.dirRev, h.txCarrier, h.activeOn, h.activeOff, h.rxCarrierOn, h.rxCarrierOff⟩

end Sys2Proof.Machine
end

section
/-! SUPPORT. The transmitter over runs (`43_txframer.md`, `40_wavetable.md`): what a TICK does on a boundary and inside a
bit period, the bit grid, silence, and runs told by bit periods; then the obligations about runs of the transmitter. -/

namespace Sys2Proof.Machine

open Sys2Proof

/-! ## A TICK on a boundary and inside a bit period -/

/-- TXSTEP on a boundary makes the move of the rule that `tx.state` selects. -/
theorem txStep_of_move {s t : State} {r : TxState} (hclk : s.tx.clk = 0) (hr : s.tx.state = r) (h : TxMove s r t) :
    txStep s = t.setTx { t.tx with clk := nextTxClk s } := by
  rw [txStep_boundary hclk, hr, h.eq]

/-- The transmit registers after a TICK on a boundary. -/
theorem tick_tx_of_move {s t : State} {r : TxState} (a : Byte) (hclk : s.tx.clk = 0) (hr : s.tx.state = r)
    (h : TxMove s r t) : (tick a s).tx = { t.tx with clk := nextTxClk s } := by
  rw [tick_tx, txStep_of_move hclk hr h, State.setTx_tx]

/-- The transmit registers after a TICK inside a bit period. -/
theorem tick_tx_inside {s : State} (a : Byte) (hclk : s.tx.clk ≠ 0) :
    (tick a s).tx = { s.tx with clk := nextTxClk s } := by
  rw [tick_tx, txStep_of_not_boundary hclk, State.setTx_tx]

/-- With nothing to send a TICK leaves `TXF`, and there is still nothing to send. -/
theorem tick_idle {s : State} (a : Byte) (h : ¬ CanSend s) : (tick a s).txf = s.txf ∧ ¬ CanSend (tick a s) := by
  have htxf : (tick a s).txf = s.txf := by
    obtain ⟨-, -, hsame | ⟨hgo, -⟩⟩ := txStep_tx_frame s
    · rw [tick_frame]
      exact hsame
    · exact absurd hgo h
  refine ⟨htxf, ?_⟩
  rw [CanSend, htxf, (tick_rights a s).mode]
  exact h

/-- Nothing to send, in the words of the statements. -/
theorem not_canSend_iff (s : State) : ¬ CanSend s ↔ s.mode = .command ∨ s.txf.wr = s.txf.rd := by
  cases h : s.mode <;> simp [CanSend, h]

/-! ## The bit grid (R17, R110) -/

/-- A TICK steps the tick counter. -/
theorem tick_clk (a : Byte) (s : State) : (tick a s).tx.clk = nextTxClk s := by
  rw [tick_tx]
  exact (txStep_tx_frame s).1

/-- Operations of the ports move the tick counter by the TICKs among them. -/
theorem execAll_clk (is : List Instr) {m : Nat} {s : State} (hc : s.cfg.wf = true)
    (hclk : s.tx.clk.toNat = m % s.cfg.bitLen) (hwf : ∀ i ∈ is, i.wf = true) :
    ∃ t, execAll is s = .next t ∧ t.tx.clk.toNat = (m + tickCount is) % s.cfg.bitLen := by
  obtain ⟨-, -, hN, hN16⟩ := Cfg.wf_frame hc
  induction is generalizing m s with
  | nil => exact ⟨s, rfl, hclk⟩
  | cons i is ih =>
    obtain ⟨hi, his⟩ := List.forall_mem_cons.1 hwf
    obtain ⟨u, hu⟩ := exec_total i s
    simp only [execAll, hu]
    cases hcmd : isTick i with
    | true =>
      obtain ⟨a, rfl⟩ := eq_tick_of_isTick hcmd
      obtain rfl : tick a s = u := Host.Outcome.next.inj hu
      have hcfg := (tick_rights a s).cfg
      have hnext : (tick a s).tx.clk.toNat = (m + 1) % s.cfg.bitLen := by
        rw [tick_clk]
        exact nextTxClk_toNat (by omega) hN16 hclk
      rw [← hcfg] at hc hnext hN hN16 ⊢
      rw [tickCount_tick, Nat.add_comm (tickCount is), ← Nat.add_assoc]
      exact ih hc hnext his hN hN16
    | false =>
      obtain ⟨hcfg, htx⟩ := exec_command_tx hi hcmd hu
      have hsame : u.tx.clk.toNat = m % s.cfg.bitLen := by
        rw [htx]
        exact hclk
      rw [← hcfg] at hc hsame hN hN16 ⊢
      rw [tickCount_command hcmd]
      exact ih hc hsame his hN hN16

/-- Settles O33. -/
theorem txBitGridNeverShifts : Obligations.TxBitGridNeverShifts := fun _ is hc hclk hwf =>
  execAll_clk is hc (Nat.mod_eq_of_lt hclk).symm hwf

/-- A step of a command leaves `tx.state`, whether its word is reserved or not. -/
theorem runWord_command_tx_state {w : Word} {s t : State} (h : runWord (.command w) s = .next t) :
    t.tx.state = s.tx.state := by
  cases hdec : decode (.command w) with
  | reserved v =>
    simp only [runWord, hdec] at h
    exact Host.Outcome.next.inj h ▸ rfl
  | op i =>
    rw [runWord_of_decode hdec] at h
    rw [(exec_command_tx (encode_of_decode hdec).2 (isTick_of_decode_command hdec) h).2]

/-- What a step without `rst` takes from the port's instant `p`: a sample's TICK, a command's word, or nothing. -/
theorem fetch_no_reset {s : State} {p : PortInput} {rest : List PortInput} (hin : s.inputs = p :: rest)
    (hrst : p.rst = none) :
    (∃ a l, p.adc = some a ∧ fetch s = .op (.tick a) (s.setInputs l)) ∨
    (∃ w l, fetch s = .op (.command w) (s.setInputs l)) ∨ (∃ l, fetch s = .quiet (s.setInputs l)) := by
  obtain ⟨rst, adc, cmd⟩ := p
  obtain rfl : rst = none := hrst
  cases adc with
  | some a => cases cmd with
    | none => exact .inl ⟨a, _, rfl, by simp only [fetch, hin]; rfl⟩
    | some w => exact .inl ⟨a, _, rfl, by simp only [fetch, hin]; rfl⟩
  | none => cases cmd with
    | none => exact .inr (.inr ⟨_, by simp only [fetch, hin]; rfl⟩)
    | some w => exact .inr (.inl ⟨w, _, by simp only [fetch, hin]; rfl⟩)

/-- Settles O34: a command and a quiet instant leave `tx.state`, and so does a TICK that finds `tx.clk` not 0. -/
theorem txStateChangesOnlyAtBitBoundaries : Obligations.TxStateChangesOnlyAtBitBoundaries := by
  intro s t p rest hin hrst hstep hne
  rcases fetch_no_reset hin hrst with ⟨a, l, hadc, hfetch⟩ | ⟨w, l, hfetch⟩ | ⟨l, hfetch⟩ <;>
    simp only [step, hfetch] at hstep
  · refine ⟨?_, by rw [hadc]; exact Option.some_ne_none a⟩
    by_contra hclk
    split at hstep
    · obtain rfl : tick a (s.setInputs l) = t := Host.Outcome.next.inj hstep
      exact hne ((congrArg TxRegs.state (tick_tx_inside (s := s.setInputs l) a hclk)).trans rfl)
    · cases hstep
  · split at hstep
    · exact absurd (runWord_command_tx_state hstep) hne
    · cases hstep
  · exact absurd (congrArg (fun u : State => u.tx.state) (Host.Outcome.next.inj hstep)).symm hne

/-! ## Silence (R76, R112) -/

/-- The transmitter is silent: NONE selected, the phase cleared, the bias on the DAC. -/
structure Silent (s : State) : Prop where
  sym : s.tx.sym = .none
  phase : s.phase = 0
  dac : s.dac = bias

/-- At the cleared phase the wave table gives the bias. -/
theorem sample_zero : sample 0 = bias := by decide

/-- A TICK whose TXSTEP selects NONE at the cleared phase is silent. -/
theorem tick_silent {s : State} (a : Byte) (hsym : (txStep s).tx.sym = .none) (hphase : (txStep s).phase = 0) :
    Silent (tick a s) := by
  obtain ⟨htx', hphase', -, hdac'⟩ := tick_txHalf a s
  refine ⟨?_, ?_, ?_⟩
  · rw [htx']
    exact hsym
  · rw [hphase', tickTx, wave, State.setPhase_phase, hphase, hsym]
    rfl
  · rw [hdac', tickTx, wave, State.setPhase_dac, State.setDac_dac, hphase]
    exact sample_zero

/-- Inside a bit period silence stays. -/
theorem Silent.tick_inside {s : State} (a : Byte) (h : Silent s) (hclk : s.tx.clk ≠ 0) : Silent (tick a s) := by
  have hstep := txStep_of_not_boundary hclk
  exact tick_silent a (by rw [hstep]; exact h.sym) (by rw [hstep]; exact h.phase)

/-! ## WAIT with nothing to send (R112, R206) -/

/-- In WAIT with nothing to send and `tx.active` ON, MARK on the line. -/
structure Holding (q : Fifo) (s : State) : Prop where
  state : s.tx.state = .wait
  active : s.tx.active = true
  sym : s.tx.sym = .mark
  idle : ¬ CanSend s
  txf : s.txf = q

/-- A TICK keeps MARK on the line. -/
theorem Holding.tick {q : Fifo} (a : Byte) (s : State) (h : Holding q s) : Holding q (tick a s) := by
  obtain ⟨htxf, hidle⟩ := tick_idle a h.idle
  by_cases hclk : s.tx.clk = 0
  · have htx := tick_tx_of_move a hclk h.state (.waitHold h.idle (.inr h.active))
    exact ⟨htx ▸ h.state, htx ▸ h.active, htx ▸ rfl, hidle, htxf.trans h.txf⟩
  · have htx := tick_tx_inside a hclk
    exact ⟨htx ▸ h.state, htx ▸ h.active, htx ▸ h.sym, hidle, htxf.trans h.txf⟩

/-- Settles O38. -/
theorem activeOutlivesTheCarrierFlag : Obligations.ActiveOutlivesTheCarrierFlag := by
  intro s as hstate hactive hsym hidle
  have hstart : Holding s.txf s := ⟨hstate, hactive, hsym, (not_canSend_iff s).2 hidle, rfl⟩
  have h := ticks_keep (Holding.tick (q := s.txf)) as hstart
  exact ⟨ticks as s, execAll_ticks as s, h.state, h.active, h.sym, h.txf⟩

/-- In WAIT with nothing to send and neither carrier flag ON, silent. -/
structure Resting (s : State) : Prop where
  state : s.tx.state = .wait
  carrier : s.tx.carrier = false
  active : s.tx.active = false
  idle : ¬ CanSend s
  silent : Silent s

/-- A TICK in WAIT with nothing to send and neither carrier flag ON is silent on a boundary. -/
theorem Resting.of_boundary {s : State} (a : Byte) (hclk : s.tx.clk = 0) (hstate : s.tx.state = .wait)
    (hcarrier : s.tx.carrier = false) (hactive : s.tx.active = false) (hidle : ¬ CanSend s) :
    Resting (tick a s) := by
  have hmove : TxMove s .wait _ := .waitSilent hidle hcarrier hactive
  have htx := tick_tx_of_move a hclk hstate hmove
  have hstep := txStep_of_move hclk hstate hmove
  exact ⟨htx ▸ hstate, htx ▸ hcarrier, htx ▸ hactive, (tick_idle a hidle).2,
    tick_silent a (by rw [hstep]; rfl) (by rw [hstep]; rfl)⟩

/-- A TICK leaves the transmitter resting. -/
theorem Resting.tick (a : Byte) (s : State) (h : Resting s) : Resting (tick a s) := by
  by_cases hclk : s.tx.clk = 0
  · exact .of_boundary a hclk h.state h.carrier h.active h.idle
  · have htx := tick_tx_inside a hclk
    exact ⟨htx ▸ h.state, htx ▸ h.carrier, htx ▸ h.active, (tick_idle a h.idle).2, h.silent.tick_inside a hclk⟩

/-- Settles O43: the reset state is resting. -/
theorem resetIsSilent : Obligations.ResetIsSilent := by
  intro c as _
  have hstart : Resting (State.resetWith c) :=
    ⟨rfl, rfl, rfl, (not_canSend_iff _).2 (.inl rfl), rfl, rfl, rfl⟩
  have h := ticks_keep Resting.tick as hstart
  exact ⟨ticks as _, execAll_ticks as _, h.silent.dac, h.silent.phase, h.silent.sym, h.state⟩

/-! ## Runs told by bit periods -/

/-- `n` TICKs after one on a boundary: the counter, and what `Q` says of the bit period reached. -/
structure PeriodAt (c : Cfg) (Q : Nat → State → Prop) (n : Nat) (s : State) : Prop where
  cfg : s.cfg = c
  clk : s.tx.clk.toNat = (n + 1) % c.bitLen
  period : Q (n / c.bitLen) s

/-- What a TICK inside a bit period keeps and a TICK on a boundary takes to the next period holds along a run. -/
theorem PeriodAt.tick {c : Cfg} (hc : c.wf = true) {Q : Nat → State → Prop}
    (hin : ∀ p a s, s.tx.clk ≠ 0 → Q p s → Q p (tick a s))
    (hedge : ∀ p a s, s.cfg = c → s.tx.clk = 0 → Q p s → Q (p + 1) (tick a s))
    (n : Nat) (a : Byte) (s : State) (h : PeriodAt c Q n s) : PeriodAt c Q (n + 1) (Machine.tick a s) := by
  obtain ⟨-, -, hN, hN16⟩ := Cfg.wf_frame hc
  obtain ⟨rfl, hclk, hperiod⟩ := h
  refine ⟨(tick_rights a s).cfg, ?_, ?_⟩
  · rw [tick_clk]
    exact nextTxClk_toNat (by omega) hN16 hclk
  · by_cases hdvd : s.cfg.bitLen ∣ n + 1
    · have hzero : s.tx.clk = 0 := BitVec.eq_of_toNat_eq (hclk.trans (Nat.mod_eq_zero_of_dvd hdvd))
      rw [Nat.succ_div_of_dvd hdvd]
      exact hedge _ a s rfl hzero hperiod
    · have hne : s.tx.clk ≠ 0 := by
        intro hzero
        rw [hzero] at hclk
        exact hdvd (Nat.dvd_of_mod_eq_zero hclk.symm)
      rw [Nat.succ_div_of_not_dvd hdvd]
      exact hin _ a s hne hperiod

/-- A run of TICKs from a boundary is in the bit period of its last TICK, where the first TICK enters period 0. -/
theorem ticks_periods {Q : Nat → State → Prop} {s : State} {as : List Byte} (hc : s.cfg.wf = true)
    (hclk : s.tx.clk = 0) (has : as ≠ []) (hfirst : ∀ a, Q 0 (tick a s))
    (hin : ∀ p a u, u.tx.clk ≠ 0 → Q p u → Q p (tick a u))
    (hedge : ∀ p a u, u.cfg = s.cfg → u.tx.clk = 0 → Q p u → Q (p + 1) (tick a u)) :
    Q ((as.length - 1) / s.cfg.bitLen) (ticks as s) := by
  obtain ⟨-, -, hN, hN16⟩ := Cfg.wf_frame hc
  obtain ⟨a, as, rfl⟩ := List.exists_cons_of_ne_nil has
  have hstart : PeriodAt s.cfg Q 0 (tick a s) := by
    refine ⟨(tick_rights a s).cfg, ?_, ?_⟩
    · rw [tick_clk]
      exact nextTxClk_toNat (by omega) hN16 (by rw [hclk, Nat.zero_mod]; rfl)
    · rw [Nat.zero_div]
      exact hfirst a
  have hrun := ticks_count (PeriodAt.tick hc hin hedge) as hstart
  rw [Nat.zero_add] at hrun
  exact hrun.period

/-- The limits of the two period counts in a well-formed configuration (R1). -/
theorem Cfg.wf_periods {c : Cfg} (h : c.wf = true) : c.carrierBits ≤ 255 ∧ c.trailBits ≤ 254 := by
  simp only [Cfg.wf, Bool.and_eq_true, decide_eq_true_eq] at h
  omega

/-! ## The preamble (R113, R121) -/

/-- Bit period `p` of a preamble of `m` periods, without a persistent carrier: MARK up to the last, then the start
bit. -/
structure PreambleBits (m p : Nat) (s : State) : Prop where
  carrier : s.tx.carrier = false
  before : p < m → s.tx.state = .preamble ∧ s.tx.sym = .mark ∧ s.tx.bits.toNat = p
  after : p = m → s.tx.state = .startBit ∧ s.tx.sym = .space

/-- A TICK inside a bit period of the preamble. -/
theorem PreambleBits.tick_inside {m p : Nat} (a : Byte) (s : State) (hclk : s.tx.clk ≠ 0) (h : PreambleBits m p s) :
    PreambleBits m p (tick a s) := by
  have htx := tick_tx_inside a hclk
  exact ⟨htx ▸ h.carrier, htx ▸ h.before, htx ▸ h.after⟩

/-- A TICK on a boundary of the preamble. -/
theorem PreambleBits.tick_boundary {p : Nat} {s : State} (hc : s.cfg.wf = true) (a : Byte) (hclk : s.tx.clk = 0)
    (h : PreambleBits (max 1 s.cfg.carrierBits) p s) :
    PreambleBits (max 1 s.cfg.carrierBits) (p + 1) (tick a s) := by
  obtain ⟨hcarrierBits, -⟩ := Cfg.wf_periods hc
  have hcarrier : (tick a s).tx.carrier = false := (tick_rights a s).txCarrier.trans h.carrier
  rcases Nat.lt_or_ge p (max 1 s.cfg.carrierBits) with hp | hp
  · obtain ⟨hstate, -, hbits⟩ := h.before hp
    have hnext : nextTxBits s = p + 1 := by rw [nextTxBits, hbits]
    rcases Nat.lt_or_ge (p + 1) s.cfg.carrierBits with hmore | hend
    · have htx := tick_tx_of_move a hclk hstate (.preambleMore h.carrier (by omega))
      have hstored := nextTxBits_stored (s := s) (by omega)
      exact ⟨hcarrier, fun _ => htx ▸ ⟨hstate, rfl, hstored.trans (by rw [hbits])⟩, fun heq => by omega⟩
    · have htx := tick_tx_of_move a hclk hstate (.preambleEnd (.inr (by omega)))
      exact ⟨hcarrier, fun hlt => by omega, fun _ => htx ▸ ⟨rfl, rfl⟩⟩
  · exact ⟨hcarrier, fun hlt => by omega, fun heq => by omega⟩

/-- Settles O36: the first TICK takes the byte and begins period 0; each boundary counts a period. -/
theorem txPreambleLength : Obligations.TxPreambleLength := by
  intro s as hc hstate hclk hcarrier hmode hne has _
  have hfirst : ∀ a, PreambleBits (max 1 s.cfg.carrierBits) 0 (tick a s) := by
    intro a
    have htx := tick_tx_of_move a hclk hstate (.waitTake ⟨hmode, hne⟩)
    exact ⟨htx ▸ hcarrier, fun _ => htx ▸ ⟨rfl, rfl, rfl⟩, fun heq => by omega⟩
  have h := ticks_periods hc hclk has hfirst (fun p a u => PreambleBits.tick_inside a u)
    (fun p a u hcfg hzero hu => by
      rw [← hcfg] at hc hu ⊢
      exact hu.tick_boundary hc a hzero)
  refine ⟨ticks as s, execAll_ticks as s, fun hlt => ?_, h.after⟩
  obtain ⟨hpreamble, hmark, -⟩ := h.before hlt
  exact ⟨hpreamble, hmark⟩

/-! ## The trail (R118) -/

/-- Bit period `p` after a stop bit with nothing to send and no persistent carrier, for a trail of `n` periods. -/
structure TrailBits (n p : Nat) (s : State) : Prop where
  carrier : s.tx.carrier = false
  idle : ¬ CanSend s
  trail : p ≤ n → s.tx.state = .trail ∧ s.tx.active = true ∧ s.tx.bits.toNat = p
  ended : n < p → s.tx.state = .wait ∧ s.tx.active = false
  mark : p < max 1 n → s.tx.sym = .mark
  silent : max 1 n ≤ p → Silent s

/-- A TICK inside a bit period of the trail. -/
theorem TrailBits.tick_inside {n p : Nat} (a : Byte) (s : State) (hclk : s.tx.clk ≠ 0) (h : TrailBits n p s) :
    TrailBits n p (tick a s) := by
  have htx := tick_tx_inside a hclk
  exact ⟨htx ▸ h.carrier, (tick_idle a h.idle).2, htx ▸ h.trail, htx ▸ h.ended, htx ▸ h.mark,
    fun hp => (h.silent hp).tick_inside a hclk⟩

/-- A TICK on a boundary of the trail: TRAIL counts the period, and after the last one WAIT stays silent. -/
theorem TrailBits.tick_boundary {p : Nat} {s : State} (hc : s.cfg.wf = true) (a : Byte) (hclk : s.tx.clk = 0)
    (h : TrailBits s.cfg.trailBits p s) : TrailBits s.cfg.trailBits (p + 1) (tick a s) := by
  obtain ⟨-, htrailBits⟩ := Cfg.wf_periods hc
  have hcarrier : (tick a s).tx.carrier = false := (tick_rights a s).txCarrier.trans h.carrier
  have hidle := (tick_idle a h.idle).2
  rcases Nat.lt_or_ge s.cfg.trailBits p with hp | hp
  · obtain ⟨hstate, hactive⟩ := h.ended hp
    have hrest := Resting.of_boundary a hclk hstate h.carrier hactive h.idle
    exact ⟨hcarrier, hidle, fun _ => by omega, fun _ => ⟨hrest.state, hrest.active⟩, fun _ => by omega,
      fun _ => hrest.silent⟩
  · obtain ⟨hstate, hactive, hbits⟩ := h.trail hp
    have hnext : nextTxBits s = p + 1 := by rw [nextTxBits, hbits]
    have hstored : (countedBits s).toNat = p + 1 := (nextTxBits_stored (s := s) (by omega)).trans (by rw [hbits])
    rcases Nat.lt_trichotomy (p + 1) s.cfg.trailBits with hmore | hlast | hover
    · have htx := tick_tx_of_move a hclk hstate (.trailMore (by omega) h.idle (.inl (by omega)))
      exact ⟨hcarrier, hidle, fun _ => htx ▸ ⟨hstate, hactive, hstored⟩, fun _ => by omega, fun _ => htx ▸ rfl,
        fun _ => by omega⟩
    · have hmove : TxMove s .trail _ := .trailLast (by omega) h.idle h.carrier
      have htx := tick_tx_of_move a hclk hstate hmove
      have hstep := txStep_of_move hclk hstate hmove
      exact ⟨hcarrier, hidle, fun _ => htx ▸ ⟨hstate, hactive, hstored⟩, fun _ => by omega, fun _ => by omega,
        fun _ => tick_silent a (by rw [hstep]; rfl) (by rw [hstep]; rfl)⟩
    · have hmove : TxMove s .trail _ := .trailOver (by omega) h.carrier
      have htx := tick_tx_of_move a hclk hstate hmove
      have hstep := txStep_of_move hclk hstate hmove
      exact ⟨hcarrier, hidle, fun _ => by omega, fun _ => htx ▸ ⟨rfl, rfl⟩, fun _ => by omega,
        fun _ => tick_silent a (by rw [hstep]; rfl) (by rw [hstep]; rfl)⟩

/-- Settles O37: the first TICK leaves STOP_BIT for TRAIL, which is period 0; each boundary counts a period. -/
theorem txTrailThenSilence : Obligations.TxTrailThenSilence := by
  intro s as hc hstate hclk hcarrier hactive hidle has
  rw [← not_canSend_iff] at hidle
  have hfirst : ∀ a, TrailBits s.cfg.trailBits 0 (tick a s) := by
    intro a
    have htx := tick_tx_of_move a hclk hstate (.stopTrail fun hgo => hidle hgo.2)
    exact ⟨htx ▸ hcarrier, (tick_idle a hidle).2, fun _ => htx ▸ ⟨rfl, hactive, rfl⟩, fun hlt => by omega,
      fun _ => htx ▸ rfl, fun hle => by omega⟩
  have h := ticks_periods hc hclk has hfirst (fun p a u => TrailBits.tick_inside a u)
    (fun p a u hcfg hzero hu => by
      rw [← hcfg] at hc hu ⊢
      exact hu.tick_boundary hc a hzero)
  refine ⟨ticks as s, execAll_ticks as s, h.mark,
    fun hle => ⟨(h.silent hle).sym, (h.silent hle).phase, (h.silent hle).dac⟩, ?_⟩
  by_cases hp : (as.length - 1) / s.cfg.bitLen ≤ s.cfg.trailBits
  · obtain ⟨htrail, hon, -⟩ := h.trail hp
    exact ⟨by rw [hon, decide_eq_true hp], by rw [htrail, if_pos hp]⟩
  · obtain ⟨hwait, hoff⟩ := h.ended (Nat.not_le.1 hp)
    exact ⟨by rw [hoff, decide_eq_false hp], by rw [hwait, if_neg hp]⟩

end Sys2Proof.Machine
end

section
/-! SUPPORT. The demodulator over runs (`44_rxdemodulator.md` R132 to R134): the range that the filter keeps, its decay
on a silent line, and the delay line as the latest samples; then the two obligations. -/

namespace Sys2Proof.Machine

open Sys2Proof

/-! ## The range of the filter (R134) -/

/-- The new input tap is a product of two recentred samples. -/
theorem demod_x1_bounds (a : Byte) (s : State) :
    -16256 ≤ (demod a s).iir.x1.toInt ∧ (demod a s).iir.x1.toInt ≤ 16384 := by
  have hp := recentre_mul_bounds a s.delay.oldest
  rw [demod_iir, iirNext_x1_toInt s.iir hp]
  exact hp

/-- The new output tap in exact integers (R133). -/
theorem demod_y1_toInt (a : Byte) (s : State) :
    (demod a s).iir.y1.toInt = s.iir.x1.toInt + (demod a s).iir.x1.toInt + s.iir.y1.toInt / 2 := by
  have hp := recentre_mul_bounds a s.delay.oldest
  rw [demod_iir, iirNext_x1_toInt s.iir hp, iirNext_y1_toInt s.iir hp]

/-- From taps in their ranges the new output tap is in its range. -/
theorem demod_y1_bounds (a : Byte) (s : State) (hx : -16256 ≤ s.iir.x1.toInt) (hx' : s.iir.x1.toInt ≤ 16384)
    (hy : -65536 ≤ s.iir.y1.toInt) (hy' : s.iir.y1.toInt ≤ 65536) :
    -65280 ≤ (demod a s).iir.y1.toInt ∧ (demod a s).iir.y1.toInt ≤ 65536 := by
  obtain ⟨hp, hp'⟩ := demod_x1_bounds a s
  rw [demod_y1_toInt]
  omega

/-- On a silent line the output is halved, rounding down. -/
theorem demod_y1_silent {s : State} (hx : s.iir.x1 = 0) :
    (demod 128 s).iir.y1.toInt = s.iir.y1.toInt / 2 := by
  have hp : recentre 128 * recentre s.delay.oldest = 0 := Int.zero_mul _
  have hx1 : (demod 128 s).iir.x1.toInt = 0 := by
    rw [demod_iir, hp]
    rfl
  have hzero : (0 : BitVec 16).toInt = 0 := by decide
  rw [demod_y1_toInt, hx1, hx, hzero, Int.add_zero, Int.zero_add]

/-- Settles O45. -/
theorem filterStaysInItsRange : Obligations.FilterStaysInItsRange := by
  intro s t a hexec
  obtain rfl : demod a s = t := Host.Outcome.next.inj hexec
  refine ⟨demod_x1_bounds a s, demod_y1_bounds a s, ?_⟩
  rintro rfl hx
  rw [demod_y1_silent hx]
  omega

/-! ## The delay line (R132) -/

/-- A TICK pushes its raw sample into the delay line. -/
theorem tick_delay (a : Byte) (s : State) : (tick a s).delay = s.delay.push a := by
  rw [tick_frame]
  rfl

/-- Over a run the delay line takes each sample at its end and drops one from its front. -/
theorem ticks_delay (as : List Byte) (s : State) :
    (ticks as s).delay.toList = (s.delay.toList ++ as).drop as.length := by
  induction as generalizing s with
  | nil => exact (List.append_nil _).symm
  | cons a as ih =>
    calc (ticks as (tick a s)).delay.toList
        = ((s.delay.push a).toList ++ as).drop as.length := by rw [ih, tick_delay]
      _ = (s.delay.toList ++ a :: as).drop (as.length + 1) := by
          rw [DelayLine.push_toList, List.append_assoc, List.singleton_append]
          rfl

/-- Settles O46. -/
theorem delayLineHoldsTheLatestSamples : Obligations.DelayLineHoldsTheLatestSamples := fun s as =>
  ⟨ticks as s, execAll_ticks as s, ticks_delay as s⟩

end Sys2Proof.Machine
end

section
/-! SUPPORT. The receiver over runs of symbols (`45_rxframer.md` R141 to R150): the carrier search, the windows in which
symbols are counted, how each window closes, and a frame from WAIT back to WAIT; then the obligations about runs of the
receiver. -/

namespace Sys2Proof.Machine

open Sys2Proof

/-! ## Runs of symbols -/

/-- RXSTEP makes the move of the rule that `rx.state` selects. -/
theorem rxStep_of_move {sym : Bool} {s t : State} {r : RxState} (hr : s.rx.state = r)
    (h : RxMove sym (shifted sym s) r t) : rxStep sym s = t := by
  rw [rxStep_eq_rxRule, hr, h.eq]

/-- After a HIGH symbol the shift register shows no falling edge. -/
theorem shiftSymbol_high (sr : BitVec 2) : shiftSymbol sr true ≠ 0b10 := by
  rw [Ne, shiftSymbol_edge]
  exact fun h => Bool.false_ne_true h.2.symm

/-- What every RXSTEP of one symbol takes from `n` to `n + 1`, a run of the symbol takes on by its length. -/
theorem symbols_replicate {P : Nat → State → Prop} {b : Bool} (hP : ∀ n u, P n u → P (n + 1) (rxStep b u)) (k : Nat)
    {n : Nat} {s : State} (h : P n s) : P (n + k) (symbols (List.replicate k b) s) := by
  induction k generalizing n s with
  | zero => exact h
  | succ k ih =>
    rw [List.replicate_succ, symbols_cons, Nat.add_comm k, ← Nat.add_assoc]
    exact ih (hP n s h)

/-! ## The carrier search (R141) -/

/-- The threshold of a well-formed configuration fits its counter (R1). -/
theorem Cfg.wf_cdThresh {c : Cfg} (h : c.wf = true) : 1 ≤ c.cdThresh ∧ c.cdThresh ≤ 65535 := by
  simp only [Cfg.wf, Bool.and_eq_true, decide_eq_true_eq] at h
  unfold Cfg.cdThresh at *
  omega

/-- `n` HIGH symbols after an empty count, with the carrier flag `flag` before. -/
structure SearchAt (c : Cfg) (flag : Bool) (n : Nat) (s : State) : Prop where
  cfg : s.cfg = c
  before : n < c.cdThresh → s.rx.state = .carrier ∧ s.rx.cdCount.toNat = n ∧ s.rx.carrier = flag
  found : c.cdThresh ≤ n → s.rx.state = .wait ∧ s.rx.cdCount.toNat = c.cdThresh ∧ s.rx.carrier = true

/-- One more HIGH symbol. -/
theorem SearchAt.high {c : Cfg} (hc : c.wf = true) {flag : Bool} (n : Nat) (s : State) (h : SearchAt c flag n s) :
    SearchAt c flag (n + 1) (rxStep true s) := by
  obtain ⟨-, hfits⟩ := Cfg.wf_cdThresh hc
  obtain ⟨rfl, hbefore, hfound⟩ := h
  have hcfg := rxStep_cfg true s
  rcases Nat.lt_or_ge n s.cfg.cdThresh with hn | hn
  · obtain ⟨hstate, hcount, hflag⟩ := hbefore hn
    have hstored := (cdCount_stored (s := s) (by omega)).trans (congrArg (· + 1) hcount)
    rcases Nat.lt_or_ge (n + 1) s.cfg.cdThresh with hbelow | hreached
    · have hstep := rxStep_of_move (sym := true) hstate (.searchBelow rfl (hcount ▸ hbelow))
      exact ⟨hcfg, fun _ => hstep ▸ ⟨hstate, hstored, hflag⟩, fun _ => by omega⟩
    · have hstep := rxStep_of_move (sym := true) hstate (.searchFound rfl (hcount ▸ hreached))
      exact ⟨hcfg, fun _ => by omega, fun _ => hstep ▸ ⟨rfl, hstored.trans (by omega), rfl⟩⟩
  · obtain ⟨hstate, hcount, hflag⟩ := hfound hn
    have hstep := rxStep_of_move (sym := true) hstate (.waitIdle (shiftSymbol_high s.rx.sr))
    exact ⟨hcfg, fun _ => by omega, fun _ => hstep ▸ ⟨hstate, hcount, hflag⟩⟩

/-- Settles O53: from count 0 each HIGH symbol counts. -/
theorem carrierIsDeclaredOnTime : Obligations.CarrierIsDeclaredOnTime := by
  intro s n hc hstate hcount
  have hpos := (Cfg.wf_cdThresh hc).1
  have hstart : SearchAt s.cfg s.rx.carrier 0 s :=
    ⟨rfl, fun _ => ⟨hstate, congrArg BitVec.toNat hcount, rfl⟩, fun hle => by omega⟩
  have h := symbols_replicate (SearchAt.high hc) n hstart
  rw [Nat.zero_add] at h
  refine ⟨symbols (List.replicate n true) s, ?_, h.before, h.found⟩
  rw [← execAll_symbols, List.map_replicate]

/-! ## Windows (R143, R144, R146, R148) -/

/-- Within a run of symbols that started under the configuration and mode of `b`: the state of the framer, the byte and
the number of bits received so far, the content of `RXF`, and the two counts of the window. -/
structure Window (b : State) (st : RxState) (byte : Byte) (bits : Nat) (q : Fifo) (sum clock : Nat) (s : State) :
    Prop where
  cfg : s.cfg = b.cfg
  mode : s.mode = b.mode
  state : s.rx.state = st
  byte : s.rx.byte = byte
  bits : s.rx.bits.toNat = bits
  rxf : s.rxf = q
  sum : s.rx.bitSum.toNat = sum
  clock : s.rx.bitClock.toNat = clock

/-- The framer in WAIT with the last symbol HIGH, within such a run. -/
structure WaitAt (b : State) (q : Fifo) (s : State) : Prop where
  cfg : s.cfg = b.cfg
  mode : s.mode = b.mode
  state : s.rx.state = .wait
  high : s.rx.sr.getLsbD 0 = true
  rxf : s.rxf = q

/-- Where the window of a state ends. -/
def windowEnd (c : Cfg) : RxState → Nat
  | .preamble => c.halfBit
  | .startBit | .dataBit | .stopBit => c.bitLen
  | .carrier | .wait => 0

section Windows

variable {b : State} {st : RxState} {byte : Byte} {bits : Nat} {q : Fifo} {sum clock : Nat} {s : State}

/-- Counting a symbol stores both counts exactly, inside a well-formed configuration's bit period. -/
theorem Window.counted (h : Window b st byte bits q sum clock s) (hc : b.cfg.wf = true) (hle : sum ≤ clock)
    (hclock : clock < b.cfg.bitLen) (sym : Bool) (st' : RxState) :
    Window b st' byte bits q (sum + sym.toNat) (clock + 1)
      ((shifted sym s).setRx { countSymbol sym (shifted sym s) with state := st' }) := by
  obtain ⟨-, -, -, hN16⟩ := Cfg.wf_frame hc
  have hsum := h.sum
  have hclk := h.clock
  refine ⟨h.cfg, h.mode, rfl, h.byte, h.bits, h.rxf, ?_, ?_⟩
  · exact (countSymbol_bitSum sym (shifted sym s) (by show s.rx.bitSum.toNat < _; omega)).trans
      (congrArg (· + sym.toNat) hsum)
  · exact (countSymbol_bitClock sym (shifted sym s) (by show s.rx.bitClock.toNat < _; omega)).trans
      (congrArg (· + 1) hclk)

/-- No window is longer than a bit period. -/
theorem windowEnd_le (c : Cfg) (st : RxState) : windowEnd c st ≤ c.bitLen := by
  cases st <;> simp only [windowEnd, Cfg.halfBit] <;> omega

/-- Inside its window every state counts the symbol and does nothing else. -/
theorem rxRule_inside {sym : Bool} (hin : nextClock s < windowEnd s.cfg st) :
    rxRule sym st s = s.setRx (countSymbol sym s) := by
  cases st with
  | preamble => exact rxPreamble_of_inside hin
  | startBit => exact rxStartBit_of_inside hin
  | dataBit => exact rxDataBit_of_inside hin
  | stopBit => exact rxStopBit_of_inside hin
  | carrier | wait => exact absurd hin (Nat.not_lt_zero _)

/-- A symbol inside the window is counted. -/
theorem Window.count (h : Window b st byte bits q sum clock s) (hc : b.cfg.wf = true) (hle : sum ≤ clock)
    (hin : clock + 1 < windowEnd b.cfg st) (sym : Bool) :
    Window b st byte bits q (sum + sym.toNat) (clock + 1) (rxStep sym s) := by
  have hend := windowEnd_le b.cfg st
  have hcounted := h.counted hc hle (by omega) sym st
  have hstay : { countSymbol sym (shifted sym s) with state := st } = countSymbol sym (shifted sym s) := by
    rw [← h.state]
    rfl
  have hnext : nextClock (shifted sym s) < windowEnd (shifted sym s).cfg st := by
    rw [← h.cfg, ← h.clock] at hin
    exact hin
  rw [hstay] at hcounted
  rwa [rxStep_eq_rxRule, h.state, rxRule_inside hnext]

/-- Symbols inside the window are counted. -/
theorem Window.run (hc : b.cfg.wf = true) (syms : List Bool) {sum clock : Nat} {s : State}
    (h : Window b st byte bits q sum clock s) (hle : sum ≤ clock) (hin : clock + syms.length < windowEnd b.cfg st) :
    Window b st byte bits q (sum + syms.count true) (clock + syms.length) (symbols syms s) := by
  induction syms generalizing sum clock s with
  | nil => exact h
  | cons sym syms ih =>
    have hcount : (sym :: syms).count true = sym.toNat + syms.count true := by
      cases sym <;> simp [Nat.add_comm]
    have hbit := Bool.toNat_le sym
    rw [List.length_cons] at hin ⊢
    rw [hcount, ← Nat.add_assoc, Nat.add_comm syms.length, ← Nat.add_assoc]
    exact ih (h.count hc hle (by omega) sym) (by omega) (by omega)

/-- A run of one symbol inside the window. -/
theorem Window.run_replicate (hc : b.cfg.wf = true) (sym : Bool) {n : Nat} (h : Window b st byte bits q sum clock s)
    (hle : sum ≤ clock) (hin : clock + n < windowEnd b.cfg st) :
    Window b st byte bits q (sum + n * sym.toNat) (clock + n) (symbols (List.replicate n sym) s) := by
  have hrun := Window.run hc (List.replicate n sym) h hle (by rwa [List.length_replicate])
  have hcount : (List.replicate n sym).count true = n * sym.toNat := by
    cases sym <;> simp [List.count_replicate]
  rwa [List.length_replicate, hcount] at hrun

/-! ## From WAIT into a window, and where each window closes -/

/-- A LOW symbol after a HIGH one starts a candidate (R142). -/
theorem WaitAt.low (h : WaitAt b q s) :
    Window b .preamble s.rx.byte s.rx.bits.toNat q 0 0 (rxStep false s) := by
  have hedge : (shifted false s).rx.sr = 0b10 := (shiftSymbol_edge s.rx.sr false).2 ⟨h.high, rfl⟩
  rw [rxStep_of_move h.state (.waitEdge hedge)]
  exact ⟨h.cfg, h.mode, rfl, rfl, rfl, h.rxf, rfl, rfl⟩

/-- HIGH symbols leave WAIT as it is. -/
theorem WaitAt.high_next (h : WaitAt b q s) : WaitAt b q (rxStep true s) := by
  rw [rxStep_of_move h.state (.waitIdle (shiftSymbol_high s.rx.sr))]
  exact ⟨h.cfg, h.mode, h.state, shiftSymbol_newest _ _, h.rxf⟩

/-- The half bit is judged by the HIGH symbols counted (R143). -/
theorem Window.preamble_end (h : Window b .preamble byte bits q sum clock s) (hc : b.cfg.wf = true) (hle : sum ≤ clock)
    (hend : clock + 1 = b.cfg.halfBit) (sym : Bool) :
    Window b (if b.cfg.eighthBit < sum + sym.toNat then .wait else .startBit) byte bits q (sum + sym.toNat) (clock + 1)
      (rxStep sym s) := by
  have hlt : clock < b.cfg.bitLen := by
    have := windowEnd_le b.cfg .preamble
    simp only [windowEnd] at this
    omega
  have hclock : (shifted sym s).cfg.halfBit ≤ nextClock (shifted sym s) := by
    show s.cfg.halfBit ≤ s.rx.bitClock.toNat + 1
    rw [h.cfg, h.clock, hend]
  have hsum : nextSum sym (shifted sym s) = sum + sym.toNat := congrArg (· + sym.toNat) h.sum
  split
  case isTrue hhigh =>
    rw [rxStep_of_move h.state (.preambleReject hclock (by rw [hsum]; exact h.cfg ▸ hhigh))]
    exact h.counted hc hle hlt sym .wait
  case isFalse hlow =>
    rw [rxStep_of_move h.state (.preambleAccept hclock (by rw [hsum]; exact h.cfg ▸ Nat.le_of_not_lt hlow))]
    exact h.counted hc hle hlt sym .startBit

/-- Settles O54: the edge opens the window, all symbols but the last are counted in it, and the last closes it. -/
theorem noisyStartBitIsRejected : Obligations.NoisyStartBitIsRejected := by
  intro s syms hc hstate hhigh hlen
  obtain ⟨-, -, hN, -⟩ := Cfg.wf_frame hc
  have hhalf : s.cfg.halfBit = s.cfg.bitLen / 2 := rfl
  have hne : syms ≠ [] := by
    rintro rfl
    rw [List.length_nil] at hlen
    omega
  obtain ⟨init, last, rfl⟩ : ∃ init last, syms = init ++ [last] :=
    ⟨_, _, (List.dropLast_append_getLast hne).symm⟩
  have hcount : (init ++ [last]).count true = init.count true + last.toNat := by
    rw [List.count_append]
    cases last <;> rfl
  rw [List.length_append, List.length_singleton] at hlen
  have hwait : WaitAt s s.rxf s := ⟨rfl, rfl, hstate, hhigh, rfl⟩
  have hin := Window.run hc init hwait.low (Nat.le_refl 0) (by simp only [windowEnd]; omega)
  rw [Nat.zero_add, Nat.zero_add] at hin
  have hjudged := hin.preamble_end hc List.count_le_length (by omega) last
  refine ⟨symbols (false :: (init ++ [last])) s, execAll_symbols _ s, ?_⟩
  rw [symbols_cons, symbols_append, hcount, ← hlen]
  exact ⟨hjudged.state, hjudged.sum, hjudged.clock, hjudged.rxf⟩

/-- The full bit accepts the candidate (R144). -/
theorem Window.start_end (h : Window b .startBit byte bits q sum clock s) (hend : clock + 1 = b.cfg.bitLen) (sym : Bool)
    (hlow : sum + sym.toNat ≤ b.cfg.quarterBit) : Window b .dataBit byte 0 q 0 0 (rxStep sym s) := by
  have hclock : (shifted sym s).cfg.bitLen ≤ nextClock (shifted sym s) := by
    show s.cfg.bitLen ≤ s.rx.bitClock.toNat + 1
    rw [h.cfg, h.clock, hend]
  have hsum : nextSum sym (shifted sym s) = sum + sym.toNat := congrArg (· + sym.toNat) h.sum
  rw [rxStep_of_move h.state (.startAccept hclock (by rw [hsum]; exact h.cfg ▸ hlow))]
  exact ⟨h.cfg, h.mode, rfl, h.byte, rfl, h.rxf, rfl, rfl⟩

/-- The state that the end of a data bit leads to, with the clock it starts from (R146). -/
theorem Window.data_end (h : Window b .dataBit byte bits q sum clock s) (hc : b.cfg.wf = true)
    (hend : clock + 1 = b.cfg.bitLen) (hbits : bits < b.cfg.dataBits) (sym : Bool) :
    (bits + 1 < b.cfg.dataBits → Window b .dataBit (shiftInBit byte (decide (b.cfg.halfBit < sum + sym.toNat)))
      (bits + 1) q 0 0 (rxStep sym s)) ∧
    (bits + 1 = b.cfg.dataBits → Window b .stopBit (shiftInBit byte (decide (b.cfg.halfBit < sum + sym.toNat)))
      (bits + 1) q 0 b.cfg.halfBit (rxStep sym s)) := by
  obtain ⟨-, hd8, -, hN16⟩ := Cfg.wf_frame hc
  have hclock : (shifted sym s).cfg.bitLen ≤ nextClock (shifted sym s) := by
    show s.cfg.bitLen ≤ s.rx.bitClock.toNat + 1
    rw [h.cfg, h.clock, hend]
  have hold := h.bits
  have hbyte : (votedRx sym (shifted sym s)).byte = shiftInBit byte (decide (b.cfg.halfBit < sum + sym.toNat)) := by
    rw [← h.byte, ← h.sum, ← h.cfg]
    rfl
  have hcounted : (votedRx sym (shifted sym s)).bits.toNat = bits + 1 :=
    (votedRx_bits_toNat (by show s.rx.bits.toNat < 15; omega)).trans (congrArg (· + 1) hold)
  refine ⟨fun hmore => ?_, fun hlast => ?_⟩
  · have hmove : (shifted sym s).rx.bits.toNat + 1 < (shifted sym s).cfg.dataBits := by
      show s.rx.bits.toNat + 1 < s.cfg.dataBits
      rwa [hold, h.cfg]
    rw [rxStep_of_move h.state (.dataMore hclock hmove)]
    exact ⟨h.cfg, h.mode, h.state, hbyte, hcounted, h.rxf, rfl, rfl⟩
  · have hmove : (shifted sym s).cfg.dataBits ≤ (shifted sym s).rx.bits.toNat + 1 := by
      show s.cfg.dataBits ≤ s.rx.bits.toNat + 1
      rw [hold, h.cfg, hlast]
    rw [rxStep_of_move h.state (.dataLast hclock hmove)]
    refine ⟨h.cfg, h.mode, rfl, hbyte, hcounted, h.rxf, rfl, ?_⟩
    rw [← h.cfg] at hN16 ⊢
    exact halfBit_stored (c := s.cfg) (by omega)

/-- The end of a valid stop bit delivers the byte, right-aligned, where there is room (R147, R148). -/
theorem Window.stop_end (h : Window b .stopBit byte bits q sum clock s) (hend : clock + 1 = b.cfg.bitLen)
    (hvalid : b.cfg.quarterBit < sum + 1) (hmode : b.mode = .data) (hroom : q.len b.cfg.cap ≠ b.cfg.cap) :
    WaitAt b (q.push b.cfg.cap (byte >>> (8 - b.cfg.dataBits))) (rxStep true s) := by
  have hclock : (shifted true s).cfg.bitLen ≤ nextClock (shifted true s) := by
    show s.cfg.bitLen ≤ s.rx.bitClock.toNat + 1
    rw [h.cfg, h.clock, hend]
  have hdelivers : Delivers true (shifted true s) := by
    show s.cfg.quarterBit < s.rx.bitSum.toNat + 1 ∧ s.mode = .data ∧ s.rxf.len s.cfg.cap ≠ s.cfg.cap
    rw [h.cfg, h.sum, h.mode, h.rxf]
    exact ⟨hvalid, hmode, hroom⟩
  rw [rxStep_of_move h.state (.stopDeliver hclock hdelivers)]
  refine ⟨h.cfg, h.mode, rfl, shiftSymbol_newest _ _, ?_⟩
  rw [← h.cfg, ← h.rxf, ← h.byte]
  rfl

end Windows

/-! ## The bits of a byte as they come in (R146, R147) -/

/-- The top `k` bits of the register are the low `k` bits of `d`. -/
def Received (d : Byte) (k : Nat) (byte : Byte) : Prop := byte.toNat / 2 ^ (8 - k) = d.toNat % 2 ^ k

/-- Before the first bit nothing is required. -/
theorem Received.zero (d byte : Byte) : Received d 0 byte := by
  have := byte.isLt
  rw [Received, Nat.div_eq_of_lt this, Nat.pow_zero, Nat.mod_one]

/-- The next bit shifted in. -/
theorem Received.next {d : Byte} {k : Nat} {byte : Byte} (hk : k < 8) (h : Received d k byte) :
    Received d (k + 1) (shiftInBit byte (d.getLsbD k)) := by
  obtain ⟨j, hj⟩ : ∃ j, 8 - k = j + 1 := ⟨7 - k, by omega⟩
  have hpow : 128 = 2 ^ k * 2 ^ j := by
    rw [← Nat.pow_add, show k + j = 7 by omega]
  have hbit : (if d.getLsbD k then 128 else 0) = (d.getLsbD k).toNat * 2 ^ k * 2 ^ j := by
    rw [Nat.mul_assoc, ← hpow]
    cases d.getLsbD k <;> rfl
  rw [Received, hj, Nat.pow_succ', ← Nat.div_div_eq_div_mul] at h
  calc (shiftInBit byte (d.getLsbD k)).toNat / 2 ^ (8 - (k + 1))
      = (byte.toNat / 2 + (d.getLsbD k).toNat * 2 ^ k * 2 ^ j) / 2 ^ j := by
        rw [shiftInBit_toNat, hbit, show 8 - (k + 1) = j by omega]
    _ = d.toNat % 2 ^ k + (d.getLsbD k).toNat * 2 ^ k := by
        rw [Nat.add_mul_div_right _ _ (Nat.two_pow_pos j), h]
    _ = d.toNat % 2 ^ (k + 1) := by
        rw [Nat.mod_pow_succ, BitVec.getLsbD, Nat.toNat_testBit, Nat.mul_comm]

/-- All the bits, right-aligned. -/
theorem Received.aligned {d : Byte} {k : Nat} {byte : Byte} (h : Received d k byte) :
    byte >>> (8 - k) = BitVec.ofNat 8 (d.toNat % 2 ^ k) := by
  have hdiv : (byte >>> (8 - k)).toNat = d.toNat % 2 ^ k := by
    rw [BitVec.toNat_ushiftRight, Nat.shiftRight_eq_div_pow, h]
  rw [← hdiv, BitVec.ofNat_toNat, BitVec.setWidth_eq]

/-! ## One frame (R150, R116) -/

section Frame

variable {b : State} {q : Fifo} {d : Byte}

/-- At the last symbol of the start bit (`k` = 0) or of data bit `k - 1` of byte `d`: the window that the first symbol
of the next bit closes. The framer's windows lag the line by this one symbol. -/
def AtBit (b : State) (q : Fifo) (d : Byte) : Nat → State → Prop
  | 0, s => ∃ byte bits, Window b .startBit byte bits q 0 (b.cfg.bitLen - 1) s
  | k + 1, s => ∃ byte, Received d k byte ∧
      Window b .dataBit byte k q ((b.cfg.bitLen - 1) * (d.getLsbD k).toNat) (b.cfg.bitLen - 1) s

/-- The LOW symbols of a start bit lead from WAIT to its end. -/
theorem WaitAt.start (hc : b.cfg.wf = true) {s : State} (h : WaitAt b q s) :
    AtBit b q d 0 (symbols (List.replicate b.cfg.bitLen false) s) := by
  obtain ⟨-, -, hN, -⟩ := Cfg.wf_frame hc
  have hhalf : b.cfg.halfBit = b.cfg.bitLen / 2 := rfl
  have hsplit : List.replicate b.cfg.bitLen false = false :: (List.replicate (b.cfg.halfBit - 1) false ++
      false :: List.replicate (b.cfg.bitLen - 1 - b.cfg.halfBit) false) := by
    rw [← List.replicate_succ, List.replicate_append_replicate, ← List.replicate_succ]
    congr 1
    omega
  have hcandidate := h.low.run_replicate hc false (n := b.cfg.halfBit - 1) (Nat.le_refl 0)
    (by simp only [windowEnd]; omega)
  have hjudged := hcandidate.preamble_end hc (by simp) (by omega) false
  rw [if_neg (by simp)] at hjudged
  have hfull := hjudged.run_replicate hc false (n := b.cfg.bitLen - 1 - b.cfg.halfBit) (by simp)
    (by simp only [windowEnd]; omega)
  have hclock : 0 + (b.cfg.halfBit - 1) + 1 + (b.cfg.bitLen - 1 - b.cfg.halfBit) = b.cfg.bitLen - 1 := by omega
  rw [hclock, Bool.toNat_false, Nat.mul_zero, Nat.mul_zero] at hfull
  rw [hsplit, symbols_cons, symbols_append, symbols_cons]
  exact ⟨_, _, hfull⟩

/-- The majority of a data bit's window is the bit, whatever the one symbol is that closes the window. -/
theorem vote_eq (hc : b.cfg.wf = true) (bit sym : Bool) :
    decide (b.cfg.halfBit < (b.cfg.bitLen - 1) * bit.toNat + sym.toNat) = bit := by
  obtain ⟨-, -, hN, -⟩ := Cfg.wf_frame hc
  have hhalf : b.cfg.halfBit = b.cfg.bitLen / 2 := rfl
  have hsym := Bool.toNat_le sym
  cases bit with
  | false => exact decide_eq_false (by rw [Bool.toNat_false]; omega)
  | true => exact decide_eq_true (by rw [Bool.toNat_true]; omega)

/-- The first symbol of data bit `k` closes the window before it. -/
theorem AtBit.close (hc : b.cfg.wf = true) {k : Nat} (hk : k < b.cfg.dataBits) {s : State} (h : AtBit b q d k s)
    (sym : Bool) : ∃ byte, Received d k byte ∧ Window b .dataBit byte k q 0 0 (rxStep sym s) := by
  obtain ⟨-, hd8, hN, -⟩ := Cfg.wf_frame hc
  have hquarter : b.cfg.quarterBit = b.cfg.bitLen / 4 := rfl
  have hsym := Bool.toNat_le sym
  cases k with
  | zero =>
    obtain ⟨byte, bits, hwin⟩ := h
    exact ⟨byte, Received.zero d byte, hwin.start_end (by omega) sym (by omega)⟩
  | succ k =>
    obtain ⟨byte, hbyte, hwin⟩ := h
    have hnext := (hwin.data_end hc (by omega) (by omega) sym).1 hk
    rw [vote_eq hc] at hnext
    exact ⟨_, hbyte.next (by omega), hnext⟩

/-- The symbols of data bit `k` lead from the end of the bit before to the end of this one. -/
theorem AtBit.next (hc : b.cfg.wf = true) {k : Nat} (hk : k < b.cfg.dataBits) {s : State} (h : AtBit b q d k s) :
    AtBit b q d (k + 1) (symbols (List.replicate b.cfg.bitLen (d.getLsbD k)) s) := by
  obtain ⟨-, -, hN, -⟩ := Cfg.wf_frame hc
  have hsplit : List.replicate b.cfg.bitLen (d.getLsbD k) =
      d.getLsbD k :: List.replicate (b.cfg.bitLen - 1) (d.getLsbD k) := by
    rw [← List.replicate_succ]
    congr 1
    omega
  obtain ⟨byte, hbyte, hopen⟩ := h.close hc hk (d.getLsbD k)
  have hfull := hopen.run_replicate hc (d.getLsbD k) (n := b.cfg.bitLen - 1) (Nat.le_refl 0)
    (by simp only [windowEnd]; omega)
  rw [Nat.zero_add, Nat.zero_add] at hfull
  rw [hsplit, symbols_cons]
  exact ⟨byte, hbyte, hfull⟩

/-- The symbols of the first `k` data bits. -/
theorem AtBit.data (hc : b.cfg.wf = true) {s : State} (h : AtBit b q d 0 s) (k : Nat) (hk : k ≤ b.cfg.dataBits) :
    AtBit b q d k
      (symbols ((List.range k).flatMap fun j => List.replicate b.cfg.bitLen (d.getLsbD j)) s) := by
  induction k with
  | zero => exact h
  | succ k ih =>
    rw [List.range_succ, List.flatMap_append, symbols_append, List.flatMap_singleton]
    exact (ih (by omega)).next hc hk

/-- The HIGH symbols of the stop bit deliver the byte and lead back to WAIT. -/
theorem AtBit.stop (hc : b.cfg.wf = true) (hmode : b.mode = .data) (hroom : q.len b.cfg.cap ≠ b.cfg.cap) {s : State}
    (h : AtBit b q d b.cfg.dataBits s) :
    WaitAt b (q.push b.cfg.cap (BitVec.ofNat 8 (d.toNat % 2 ^ b.cfg.dataBits)))
      (symbols (List.replicate b.cfg.bitLen true) s) := by
  obtain ⟨hd5, hd8, hN, -⟩ := Cfg.wf_frame hc
  have hhalf : b.cfg.halfBit = b.cfg.bitLen / 2 := rfl
  have hquarter : b.cfg.quarterBit = b.cfg.bitLen / 4 := rfl
  obtain ⟨k, hk⟩ : ∃ k, b.cfg.dataBits = k + 1 := ⟨b.cfg.dataBits - 1, by omega⟩
  have hsplit : List.replicate b.cfg.bitLen true = true :: (List.replicate (b.cfg.bitLen - b.cfg.halfBit - 1) true ++
      true :: List.replicate (b.cfg.halfBit - 1) true) := by
    rw [← List.replicate_succ, List.replicate_append_replicate, ← List.replicate_succ]
    congr 1
    omega
  rw [hk] at h
  obtain ⟨byte, hbyte, hwin⟩ := h
  have hopen := (hwin.data_end hc (by omega) (by omega) true).2 hk.symm
  rw [vote_eq hc] at hopen
  have hfull := hopen.run_replicate hc true (n := b.cfg.bitLen - b.cfg.halfBit - 1) (Nat.zero_le _)
    (by simp only [windowEnd]; omega)
  have hwait := hfull.stop_end (by omega) (by rw [Bool.toNat_true]; omega) hmode hroom
  rw [hk, (hbyte.next (by omega)).aligned, ← hk] at hwait
  rw [hsplit, symbols_cons, symbols_append, symbols_cons]
  exact symbols_replicate (P := fun _ => WaitAt b _) (fun _ _ hu => hu.high_next) _ (n := 0) hwait

/-- One frame on the line puts its byte into `RXF` and leads back to WAIT. -/
theorem WaitAt.frame (hc : b.cfg.wf = true) (hmode : b.mode = .data) (hroom : q.len b.cfg.cap ≠ b.cfg.cap) {s : State}
    (h : WaitAt b q s) :
    WaitAt b (q.push b.cfg.cap (BitVec.ofNat 8 (d.toNat % 2 ^ b.cfg.dataBits)))
      (symbols (frameSymbols b.cfg d) s) := by
  rw [frameSymbols, symbols_append, symbols_append]
  exact ((h.start hc).data hc b.cfg.dataBits (Nat.le_refl _)).stop hc hmode hroom

/-- Frames back to back put their bytes into `RXF` in order, as long as there is room. -/
theorem WaitAt.frames (hc : b.cfg.wf = true) (hmode : b.mode = .data) (bs : List Byte) {q : Fifo} {s : State}
    (h : WaitAt b q s) (hq : q.Inv b.cfg.cap) (hroom : q.len b.cfg.cap + bs.length ≤ b.cfg.cap) :
    ∃ r, WaitAt b r (symbols (bs.flatMap (frameSymbols b.cfg)) s) ∧
      r.items b.cfg.cap =
        q.items b.cfg.cap ++ bs.map (fun x => BitVec.ofNat 8 (x.toNat % 2 ^ b.cfg.dataBits)) := by
  induction bs generalizing q s with
  | nil => exact ⟨q, h, (List.append_nil _).symm⟩
  | cons d bs ih =>
    rw [List.length_cons] at hroom
    have hlt : q.len b.cfg.cap < b.cfg.cap := by omega
    obtain ⟨r, hr, hitems⟩ := ih (h.frame (d := d) hc hmode (by omega)) (Fifo.push_inv _ hq hlt)
      (by rw [Fifo.push_len _ hlt]; omega)
    refine ⟨r, ?_, ?_⟩
    · rwa [List.flatMap_cons, symbols_append]
    · rw [hitems, Fifo.push_items _ hq hlt, List.append_assoc, List.map_cons, List.singleton_append]

end Frame

/-- Settles O55. -/
theorem framesAreReceivedAsSent : Obligations.FramesAreReceivedAsSent := by
  intro s bs hc hstate hhigh hmode hq hroom
  have hwait : WaitAt s s.rxf s := ⟨rfl, rfl, hstate, hhigh, rfl⟩
  obtain ⟨r, hr, hitems⟩ := hwait.frames hc hmode bs hq hroom
  refine ⟨_, execAll_symbols _ s, hr.state, ?_⟩
  rw [hr.rxf, hitems]

end Sys2Proof.Machine
end

section
/-! SUPPORT. The invariant (`10_state.md` R22): each part of it is kept by the moves of the rules that write its fields,
by the commands and by the reset pin; then the obligations on the invariant and on runs. -/

namespace Sys2Proof.Machine

open Sys2Proof

/-! ## The FIFOs (R22 (f)) -/

/-- Taking a byte keeps a FIFO's invariant. -/
theorem Fifo.pop_inv_of_ne {cap : Nat} {q : Fifo} (hq : q.Inv cap) (hne : q.wr ≠ q.rd) : (q.pop cap).Inv cap := by
  have hlen : q.len cap ≠ 0 := by
    rw [Ne, ← Fifo.empty_iff_len hq, Fifo.empty_iff]
    exact hne
  exact Fifo.pop_inv (n := q.len cap - 1) hq (by omega)

/-- Adding a byte to a FIFO that is not full keeps its invariant. -/
theorem Fifo.push_inv_of_ne {cap : Nat} {q : Fifo} (b : Byte) (hq : q.Inv cap) (hne : q.len cap ≠ cap) :
    (q.push cap b).Inv cap := by
  obtain ⟨-, -, -, -, hle⟩ := id hq
  exact Fifo.push_inv b hq (Nat.lt_of_le_of_ne hle hne)

/-- The emptied FIFO meets its invariant. -/
theorem Fifo.emptied_inv (c : Cfg) : Fifo.emptied.Inv c.cap := by
  have hcap := cap_pos c
  have hlen : Fifo.emptied.len c.cap = 0 := Fifo.len_eq_of_modEq (by omega) rfl
  exact ⟨rfl, nofun, by show 0 < _; omega, by show 0 < _; omega, by omega⟩

/-! ## The transmit half (R22 (a), (b), (c)) -/

/-- The bounds of `tx.bits` in R22 (c), of the registers alone. -/
def BitsBounded (c : Cfg) (r : TxRegs) : Prop :=
  r.bits.toNat ≤ max c.carrierBits (max c.dataBits (c.trailBits + 1)) ∧
  (r.state = .preamble → r.bits.toNat = 0 ∨ r.bits.toNat < c.carrierBits) ∧
  (r.state = .dataBit → r.bits.toNat ≤ c.dataBits) ∧
  (r.state = .trail → r.bits.toNat ≤ c.trailBits)

/-- The transmit half of R22: the tick counter and the bounds of `tx.bits`. -/
theorem txInv_iff (s : State) : TxInv s ↔ s.tx.clk.toNat < s.cfg.bitLen ∧ BitsBounded s.cfg s.tx := Iff.rfl

section BitsBounded

variable {c : Cfg} {r : TxRegs}

/-- The bounds in PREAMBLE. -/
theorem BitsBounded.of_preamble (hstate : r.state = .preamble) (h : r.bits.toNat = 0 ∨ r.bits.toNat < c.carrierBits) :
    BitsBounded c r := by
  refine ⟨by omega, fun _ => h, fun h' => ?_, fun h' => ?_⟩ <;> exact nomatch hstate.symm.trans h'

/-- The bounds in DATA_BIT. -/
theorem BitsBounded.of_dataBit (hstate : r.state = .dataBit) (h : r.bits.toNat ≤ c.dataBits) : BitsBounded c r := by
  refine ⟨by omega, fun h' => ?_, fun _ => h, fun h' => ?_⟩ <;> exact nomatch hstate.symm.trans h'

/-- The bounds in TRAIL. -/
theorem BitsBounded.of_trail (hstate : r.state = .trail) (h : r.bits.toNat ≤ c.trailBits) : BitsBounded c r := by
  refine ⟨by omega, fun h' => ?_, fun h' => ?_, fun _ => h⟩ <;> exact nomatch hstate.symm.trans h'

/-- The bounds in the states that do not count. -/
theorem BitsBounded.of_other (hstate : r.state = .wait ∨ r.state = .startBit ∨ r.state = .stopBit)
    (h : r.bits.toNat ≤ max c.carrierBits (max c.dataBits (c.trailBits + 1))) : BitsBounded c r := by
  refine ⟨h, fun h' => ?_, fun h' => ?_, fun h' => ?_⟩ <;>
    rcases hstate with hs | hs | hs <;> exact nomatch hs.symm.trans h'

end BitsBounded

/-- The rule that `tx.state` selects keeps the bounds of `tx.bits`. -/
theorem TxMove.bitsBounded {s t : State} {r : TxState} (hc : s.cfg.wf = true) (hr : s.tx.state = r)
    (h : TxMove s r t) (hs : BitsBounded s.cfg s.tx) : BitsBounded s.cfg t.tx := by
  obtain ⟨hd5, hd8, -, -⟩ := Cfg.wf_frame hc
  obtain ⟨hcarrierBits, htrailBits⟩ := Cfg.wf_periods hc
  have hstored : s.tx.bits.toNat < 255 → (countedBits s).toNat = nextTxBits s := nextTxBits_stored
  have hnext : nextTxBits s = s.tx.bits.toNat + 1 := rfl
  have hold := hs
  obtain ⟨hbits, hpreamble, hdata, htrail⟩ := hs
  cases h with
  | waitTake => exact .of_preamble rfl (.inl rfl)
  | waitHold | waitSilent => exact hold
  | preambleEnd =>
    have hbound : (countedBits s).toNat ≤ max s.cfg.carrierBits (max s.cfg.dataBits (s.cfg.trailBits + 1)) := by
      have := hpreamble hr
      omega
    exact .of_other (.inr (.inl rfl)) hbound
  | preambleMore _ hmore =>
    have hbound : (countedBits s).toNat < s.cfg.carrierBits := by omega
    exact .of_preamble hr (.inr hbound)
  | startBit =>
    have hbound : 1 ≤ s.cfg.dataBits := by omega
    exact .of_dataBit rfl hbound
  | dataLast => exact .of_other (.inr (.inr rfl)) hbits
  | dataMore hmore =>
    have hcount : (s.tx.bits + 1).toNat = s.tx.bits.toNat + 1 := by
      rw [BitVec.toNat_add]
      exact Nat.mod_eq_of_lt (by show _ + 1 < 256; omega)
    have hbound : (s.tx.bits + 1).toNat ≤ s.cfg.dataBits := by omega
    exact .of_dataBit hr hbound
  | stopNext => exact .of_other (.inr (.inl rfl)) hbits
  | stopTrail => exact .of_trail rfl (Nat.zero_le _)
  | trailHold | trailOver =>
    have hbound : (countedBits s).toNat ≤ max s.cfg.carrierBits (max s.cfg.dataBits (s.cfg.trailBits + 1)) := by
      have := htrail hr
      omega
    exact .of_other (.inl rfl) hbound
  | trailTake hmore =>
    have hbound : (countedBits s).toNat ≤ max s.cfg.carrierBits (max s.cfg.dataBits (s.cfg.trailBits + 1)) := by omega
    exact .of_other (.inr (.inl rfl)) hbound
  | trailLast hlast =>
    have hbound : (countedBits s).toNat ≤ s.cfg.trailBits := by omega
    exact .of_trail hr hbound
  | trailMore hmore =>
    have hbound : (countedBits s).toNat ≤ s.cfg.trailBits := by omega
    exact .of_trail hr hbound

/-- TXSTEP keeps the transmit counters in their bounds. -/
theorem txStep_txInv {s : State} (hc : s.cfg.wf = true) (hinv : TxInv s) :
    (txStep s).tx.clk.toNat < s.cfg.bitLen ∧ BitsBounded s.cfg (txStep s).tx := by
  obtain ⟨-, -, hN, hN16⟩ := Cfg.wf_frame hc
  obtain ⟨hclk, hbits⟩ := (txInv_iff s).1 hinv
  have hnext : (nextTxClk s).toNat < s.cfg.bitLen := by
    rw [nextTxClk_toNat (m := s.tx.clk.toNat) (by omega) hN16 (Nat.mod_eq_of_lt hclk).symm]
    exact Nat.mod_lt _ (by omega)
  by_cases hzero : s.tx.clk = 0
  · rw [txStep_boundary hzero]
    have hrule := (txRule_move s.tx.state s).bitsBounded hc rfl hbits
    exact ⟨hnext, hrule⟩
  · rw [txStep_of_not_boundary hzero]
    exact ⟨hnext, hbits⟩

/-- A data bit is never sent as NONE. -/
theorem symOfBit_ne_none (b : Bool) : symOfBit b ≠ .none := by
  cases b <;> exact TxSym.noConfusion

/-- Every rule of the TxFramer selects a symbol, and NONE only with a cleared phase. -/
theorem TxMove.phase_of_none {s t : State} {r : TxState} (h : TxMove s r t) (ht : t.tx.sym = .none) : t.phase = 0 := by
  cases h with
  | waitSilent | trailOver | trailLast => rfl
  | startBit | dataMore => exact absurd ht (symOfBit_ne_none _)
  | _ => exact nomatch ht

/-- NONE comes with a cleared phase after TXSTEP. -/
theorem txStep_phase_of_none {s : State} (hs : s.tx.sym = .none → s.phase = 0) (ht : (txStep s).tx.sym = .none) :
    (txStep s).phase = 0 := by
  by_cases hzero : s.tx.clk = 0
  · rw [txStep_boundary hzero] at ht ⊢
    exact (txRule_move s.tx.state s).phase_of_none ht
  · rw [txStep_of_not_boundary hzero] at ht ⊢
    exact hs ht

/-- A TICK keeps the synthesizer's part. -/
theorem tick_waveInv (a : Byte) {s : State} (h : WaveInv s) : WaveInv (tick a s) := by
  obtain ⟨hnone, -⟩ := h
  refine ⟨fun hsym => ?_, ?_⟩
  · rw [tick_tx] at hsym
    have hsilent := tick_silent a hsym (txStep_phase_of_none (fun h => (hnone h).1) hsym)
    exact ⟨hsilent.phase, hsilent.dac⟩
  · obtain ⟨-, -, -, hdac⟩ := tick_txHalf a s
    change _ = sample ((txStep s).phase.extractLsb' 8 8) at hdac
    intro hzero
    have hpos := sample_pos ((txStep s).phase.extractLsb' 8 8)
    rw [← hdac, hzero] at hpos
    exact absurd hpos (by decide)

/-! ## The demodulator (R22 (d), (e)) -/

/-- A TICK keeps the length of the delay line and the ranges of the taps. -/
theorem tick_demodInv (a : Byte) {s : State} (h : DemodInv s) : DemodInv (tick a s) := by
  obtain ⟨hlen, -, ⟨hx, hx'⟩, -, ⟨hy, hy'⟩⟩ := h
  have hnew := demod_x1_bounds a s
  obtain ⟨hlow, hhigh⟩ := demod_y1_bounds a s hx hx' hy hy'
  have hlow' : -65536 ≤ (demod a s).iir.y1.toInt := by omega
  rw [tick_frame]
  exact ⟨(DelayLine.push_length s.delay a).trans hlen, ⟨hx, hx'⟩, hnew, ⟨hy, hy'⟩, ⟨hlow', hhigh⟩⟩

/-! ## The receive half (R22 (g), (i)) -/

/-- The bounds of the receive counters in R22 (g) and (i), of the registers alone. -/
def RxBounded (c : Cfg) (r : RxRegs) : Prop :=
  r.bitSum.toNat ≤ c.bitLen ∧ r.bitClock.toNat ≤ c.bitLen ∧
  r.bits.toNat ≤ c.dataBits ∧ r.cdCount.toNat ≤ c.cdThresh ∧
  (r.state = .carrier → r.cdCount.toNat < c.cdThresh) ∧
  (r.state = .preamble ∨ r.state = .startBit ∨ r.state = .dataBit ∨ r.state = .stopBit →
    r.bitSum.toNat ≤ r.bitClock.toNat) ∧
  (r.state = .preamble → r.bitClock.toNat < c.halfBit) ∧
  (r.state = .startBit ∨ r.state = .dataBit ∨ r.state = .stopBit → r.bitClock.toNat < c.bitLen) ∧
  (r.state = .dataBit → r.bits.toNat < c.dataBits) ∧
  (r.state = .carrier ↔ r.carrier = false)

/-- The receive framer's part of R22 is about its registers alone. -/
theorem rxInv_iff (s : State) : RxInv s ↔ RxBounded s.cfg s.rx := Iff.rfl

section RxBounded

variable {c : Cfg} {r : RxRegs}

/-- The bounds in WAIT. -/
theorem RxBounded.of_wait (hstate : r.state = .wait) (hcarrier : r.carrier = true) (hsum : r.bitSum.toNat ≤ c.bitLen)
    (hclock : r.bitClock.toNat ≤ c.bitLen) (hbits : r.bits.toNat ≤ c.dataBits) (hcount : r.cdCount.toNat ≤ c.cdThresh) :
    RxBounded c r := by
  simp [RxBounded, hstate, hcarrier, hsum, hclock, hbits, hcount]

/-- The bounds in CARRIER. -/
theorem RxBounded.of_search (hstate : r.state = .carrier) (hcarrier : r.carrier = false)
    (hsum : r.bitSum.toNat ≤ c.bitLen) (hclock : r.bitClock.toNat ≤ c.bitLen) (hbits : r.bits.toNat ≤ c.dataBits)
    (hcount : r.cdCount.toNat < c.cdThresh) : RxBounded c r := by
  simp [RxBounded, hstate, hcarrier, hsum, hclock, hbits, hcount, Nat.le_of_lt hcount]

/-- The bounds in a state that counts symbols, up to the end of its window. -/
theorem RxBounded.of_window (hcarrier : r.carrier = true) (hsum : r.bitSum.toNat ≤ r.bitClock.toNat)
    (hclock : r.bitClock.toNat < windowEnd c r.state) (hbits : r.bits.toNat ≤ c.dataBits)
    (hmore : r.state = .dataBit → r.bits.toNat < c.dataBits) (hcount : r.cdCount.toNat ≤ c.cdThresh) :
    RxBounded c r := by
  have hle := windowEnd_le c r.state
  have hne : r.state ≠ .carrier := by
    intro h
    rw [h] at hclock
    exact Nat.not_lt_zero _ hclock
  refine ⟨by omega, by omega, hbits, hcount, fun h => absurd h hne, fun _ => hsum, fun h => ?_, fun _ => by omega,
    hmore, iff_of_false hne (by rw [hcarrier]; exact Bool.false_ne_true.symm)⟩
  rwa [h] at hclock

/-- In a state that counts symbols, the bounds give back the window. -/
theorem RxBounded.window (h : RxBounded c r) (hne : r.state ≠ .carrier) (hne' : r.state ≠ .wait) :
    r.bitSum.toNat ≤ r.bitClock.toNat ∧ r.bitClock.toNat < windowEnd c r.state := by
  obtain ⟨-, -, -, -, -, hsum, hhalf, hclock, -, -⟩ := h
  cases hstate : r.state with
  | carrier => exact absurd hstate hne
  | wait => exact absurd hstate hne'
  | preamble => exact ⟨hsum (.inl hstate), hhalf hstate⟩
  | startBit => exact ⟨hsum (.inr (.inl hstate)), hclock (.inl hstate)⟩
  | dataBit => exact ⟨hsum (.inr (.inr (.inl hstate))), hclock (.inr (.inl hstate))⟩
  | stopBit => exact ⟨hsum (.inr (.inr (.inr hstate))), hclock (.inr (.inr hstate))⟩

/-- The carrier flag is ON outside CARRIER. -/
theorem RxBounded.carrier_of_ne (h : RxBounded c r) (hne : r.state ≠ .carrier) : r.carrier = true := by
  obtain ⟨-, -, -, -, -, -, -, -, -, hiff⟩ := h
  rwa [Ne, hiff, Bool.not_eq_false] at hne

end RxBounded

/-- In a state that counts symbols both counts fit: the sum does not pass the clock, nor the clock its window's end. -/
theorem RxBounded.counted {s : State} (hc : s.cfg.wf = true) (hs : RxBounded s.cfg s.rx) (hne : s.rx.state ≠ .carrier)
    (hne' : s.rx.state ≠ .wait) (sym : Bool) :
    (countSymbol sym s).bitClock.toNat = nextClock s ∧
    (countSymbol sym s).bitSum.toNat ≤ (countSymbol sym s).bitClock.toNat ∧
    nextClock s ≤ windowEnd s.cfg s.rx.state := by
  obtain ⟨-, -, -, hN16⟩ := Cfg.wf_frame hc
  obtain ⟨hsum, hclock⟩ := hs.window hne hne'
  have hend := windowEnd_le s.cfg s.rx.state
  have hstoredSum := countSymbol_bitSum sym s (by omega)
  have hstoredClock := countSymbol_bitClock sym s (by omega)
  have hsym := Bool.toNat_le sym
  exact ⟨hstoredClock, by omega, hclock⟩

/-- A symbol counted inside its window keeps the bounds. -/
theorem RxBounded.count {s : State} (hc : s.cfg.wf = true) (hs : RxBounded s.cfg s.rx) {st : RxState}
    (hst : s.rx.state = st) (sym : Bool) (hin : nextClock s < windowEnd s.cfg st) :
    RxBounded s.cfg (countSymbol sym s) := by
  subst hst
  have hne : s.rx.state ≠ .carrier := fun h => by rw [h] at hin; exact Nat.not_lt_zero _ hin
  have hne' : s.rx.state ≠ .wait := fun h => by rw [h] at hin; exact Nat.not_lt_zero _ hin
  obtain ⟨hstored, hle, -⟩ := hs.counted hc hne hne' sym
  have hcarrier := hs.carrier_of_ne hne
  obtain ⟨-, -, hbits, hcount, -, -, -, -, hmore, -⟩ := hs
  exact .of_window hcarrier hle (hstored.trans_lt hin) hbits hmore hcount

/-- A symbol that ends a window and leads to WAIT keeps the bounds. -/
theorem RxBounded.count_wait {s : State} (hc : s.cfg.wf = true) (hs : RxBounded s.cfg s.rx)
    (hne : s.rx.state ≠ .carrier) (hne' : s.rx.state ≠ .wait) (sym : Bool) :
    RxBounded s.cfg { countSymbol sym s with state := .wait } := by
  obtain ⟨hstored, hle, hclock⟩ := hs.counted hc hne hne' sym
  have hend := windowEnd_le s.cfg s.rx.state
  have hclockN : (countSymbol sym s).bitClock.toNat ≤ s.cfg.bitLen := by omega
  have hcarrier := hs.carrier_of_ne hne
  obtain ⟨-, -, hbits, hcount, -⟩ := hs
  exact .of_wait rfl hcarrier (hle.trans hclockN) hclockN hbits hcount

/-- The rule that `rx.state` selects keeps the bounds of the receive counters. -/
theorem RxMove.rxBounded {sym : Bool} {s t : State} {r : RxState} (hc : s.cfg.wf = true) (hr : s.rx.state = r)
    (h : RxMove sym s r t) (hs : RxBounded s.cfg s.rx) : RxBounded s.cfg t.rx := by
  obtain ⟨hd5, hd8, hN, hN16⟩ := Cfg.wf_frame hc
  obtain ⟨hthresh, hthresh16⟩ := Cfg.wf_cdThresh hc
  have hhalf : s.cfg.halfBit = s.cfg.bitLen / 2 := rfl
  have hne : r ≠ .carrier → s.rx.state ≠ .carrier := fun h => hr ▸ h
  have hne' : r ≠ .wait → s.rx.state ≠ .wait := fun h => hr ▸ h
  obtain ⟨hsum, hclock, hbits, hcount, hsearch, -, -, -, hmore, hiff⟩ := id hs
  cases h with
  | searchLow => exact .of_search hr (hiff.1 hr) hsum hclock hbits hthresh
  | searchBelow _ hbelow =>
    have hstored := cdCount_stored (s := s) (by omega)
    exact .of_search hr (hiff.1 hr) hsum hclock hbits (hstored.trans_lt hbelow)
  | searchFound =>
    have hbelow := hsearch hr
    have hstored := cdCount_stored (s := s) (by omega)
    exact .of_wait rfl rfl hsum hclock hbits (hstored.trans_le hbelow)
  | waitEdge =>
    have hopen : 0 < s.cfg.halfBit := by omega
    exact .of_window (hs.carrier_of_ne (hne nofun)) (Nat.le_refl 0) hopen hbits nofun hcount
  | waitIdle => exact hs
  | preambleCount hin | startCount hin | dataCount hin | stopCount hin => exact hs.count hc hr sym hin
  | preambleReject | startReject | stopDeliver | stopDrop =>
    exact hs.count_wait hc (hne nofun) (hne' nofun) sym
  | preambleAccept =>
    obtain ⟨hstored, hle, hend⟩ := hs.counted hc (hne nofun) (hne' nofun) sym
    rw [hr] at hend
    have hopen : (countSymbol sym s).bitClock.toNat < s.cfg.bitLen := by
      have : nextClock s ≤ s.cfg.halfBit := hend
      omega
    exact .of_window (hs.carrier_of_ne (hne nofun)) hle hopen hbits nofun hcount
  | startAccept =>
    have hopen : 0 < s.cfg.bitLen := by omega
    have hfirst : 0 < s.cfg.dataBits := by omega
    exact .of_window (hs.carrier_of_ne (hne nofun)) (Nat.le_refl 0) hopen (Nat.zero_le _) (fun _ => hfirst) hcount
  | dataLast =>
    have hlast := hmore hr
    have hstored := votedRx_bits_toNat (sym := sym) (s := s) (by omega)
    have hclock' : (BitVec.ofNat 16 s.cfg.halfBit).toNat = s.cfg.bitLen / 2 := halfBit_stored (by omega)
    have hopen : (BitVec.ofNat 16 s.cfg.halfBit).toNat < s.cfg.bitLen := by omega
    exact .of_window (hs.carrier_of_ne (hne nofun)) (Nat.zero_le _) hopen (hstored.trans_le hlast) nofun hcount
  | dataMore _ hnext =>
    have hstored := votedRx_bits_toNat (sym := sym) (s := s) (by omega)
    have hbits' : (votedRx sym s).bits.toNat < s.cfg.dataBits := hstored.trans_lt hnext
    have hopen : 0 < windowEnd s.cfg s.rx.state := by
      rw [hr]
      exact Nat.lt_of_lt_of_le (by decide) hN
    exact .of_window (hs.carrier_of_ne (hne nofun)) (Nat.le_refl 0) hopen hbits'.le (fun _ => hbits') hcount

/-- RXSTEP keeps the bounds of the receive counters, and the invariant of `RXF`. -/
theorem rxStep_rxBounded {s : State} (hc : s.cfg.wf = true) (sym : Bool) (hs : RxBounded s.cfg s.rx)
    (hq : s.rxf.Inv s.cfg.cap) :
    RxBounded s.cfg (rxStep sym s).rx ∧ (rxStep sym s).rxf.Inv s.cfg.cap := by
  have hmove := rxRule_move sym s.rx.state (shifted sym s)
  rw [← rxStep_eq_rxRule] at hmove
  refine ⟨hmove.rxBounded (s := shifted sym s) hc rfl hs, ?_⟩
  obtain ⟨-, hsame | ⟨⟨-, -, hroom⟩, hpush⟩⟩ := hmove.rx_frame
  · rw [hsame]
    exact hq
  · rw [hpush]
    exact Fifo.push_inv_of_ne _ hq hroom

/-! ## TICKs -/

/-- TXSTEP keeps the invariant of `TXF`. -/
theorem txStep_txfInv {s : State} (hq : s.txf.Inv s.cfg.cap) : (txStep s).txf.Inv s.cfg.cap := by
  obtain ⟨-, -, hsame | ⟨⟨-, hne⟩, hpop⟩⟩ := txStep_tx_frame s
  · rw [hsame]
    exact hq
  · rw [hpop]
    exact Fifo.pop_inv_of_ne hq hne

/-- A TICK keeps the invariant: each part is kept by the half that writes its fields. -/
theorem tick_inv (a : Byte) {s : State} (h : Inv s) : Inv (tick a s) := by
  obtain ⟨hc, htx, hwave, hdemod, hrx, htxf, hrxf, hrsp⟩ := h
  have hwave' := tick_waveInv a hwave
  have hdemod' := tick_demodInv a hdemod
  have htx' := txStep_txInv hc htx
  have htxf' := txStep_txfInv htxf
  have hbounded := (rxInv_iff s).1 hrx
  obtain ⟨hrx', hrxf'⟩ := rxStep_rxBounded (s := demod a s) hc (demodSymbol (demod a s)) hbounded hrxf
  rw [tick_frame] at hwave' hdemod' ⊢
  exact ⟨hc, htx', hwave', hdemod', hrx', htxf', hrxf', hrsp⟩

/-! ## Commands -/

/-- A word with bit 15 clear is below ERR. -/
theorem toNat_lt_of_bit15 {w : Word} (h : w.getLsbD 15 = false) : w.toNat < 0x8000 := by
  have hlt := w.isLt
  rw [BitVec.getLsbD, Nat.testBit_eq_decide_div_mod_eq, decide_eq_false_iff_not] at h
  omega

/-- The response of a command meets its part of the invariant (R53). -/
theorem exec_command_rsp {i : Instr} {s t : State} (hc : s.cfg.wf = true) (hwf : i.wf = true) (hcmd : isTick i = false)
    (h : exec i s = .next t) : t.rsp = 0x8000 ∨ t.rsp.toNat < 0x8000 := by
  cases hres : isReservedOp i with
  | true =>
    rw [exec_of_isReservedOp hres] at h
    exact .inl (Host.Outcome.next.inj h ▸ rfl)
  | false => exact .inr (toNat_lt_of_bit15 (exec_rsp_bit15 hc hwf hcmd hres h))

/-- Cleared receive registers meet the bounds in WAIT with the carrier declared, and in CARRIER without. -/
theorem rxBounded_cleared {c : Cfg} (hc : c.wf = true) (r : RxRegs) :
    RxBounded c { r.cleared with state := .wait, carrier := true } ∧
    RxBounded c { r.cleared with state := .carrier, carrier := false } :=
  ⟨.of_wait rfl rfl (Nat.zero_le _) (Nat.zero_le _) (Nat.zero_le _) (Nat.zero_le _),
    .of_search rfl rfl (Nat.zero_le _) (Nat.zero_le _) (Nat.zero_le _) (Cfg.wf_cdThresh hc).1⟩

/-- Cleared taps and a delay line of the right length meet the demodulator's part. -/
theorem demodInv_of_zero {s : State} (hiir : s.iir = IirTaps.zero) (hlen : s.delay.toList.length = (rxPair s).qlen) :
    DemodInv s := by
  rw [DemodInv, hiir]
  exact ⟨hlen, by decide, by decide, by decide, by decide⟩

/-- A quiet delay line has the length asked for. -/
theorem DelayLine.quiet_length {n : Nat} (h : 0 < n) : (DelayLine.quiet n).toList.length = n := by
  rw [DelayLine.quiet_toList n h, List.length_replicate]

/-- Driving `rsp` with ERR or with a word that has ERR clear keeps the invariant. -/
theorem inv_setRsp {s : State} (hinv : Inv s) {v : Word} (hv : v = 0x8000 ∨ v.toNat < 0x8000) : Inv (s.setRsp v) := by
  obtain ⟨hc, htx, hwave, hdemod, hrx, htxf, hrxf, -⟩ := hinv
  exact ⟨hc, htx, hwave, hdemod, hrx, htxf, hrxf, hv⟩

/-- Every host command keeps the invariant. -/
theorem exec_command_inv {i : Instr} {s t : State} (hinv : Inv s) (hwf : i.wf = true) (hcmd : isTick i = false)
    (h : exec i s = .next t) : Inv t := by
  obtain ⟨hc, htx, hwave, hdemod, hrx, htxf, hrxf, -⟩ := id hinv
  have hrsp := exec_command_rsp hc hwf hcmd h
  obtain ⟨hwait, hsearch⟩ := rxBounded_cleared hc s.rx
  cases i with
  | nop | status | txlen | rxlen =>
    obtain ⟨v, rfl⟩ : ∃ v, t = s.setRsp v := ⟨_, (Host.Outcome.next.inj h).symm⟩
    exact inv_setRsp hinv hrsp
  | reservedA | reservedB | reservedC | reservedD | reservedE | reservedF =>
    obtain ⟨v, rfl⟩ : ∃ v, t = s.setRsp v := ⟨_, (Host.Outcome.next.inj h).symm⟩
    exact inv_setRsp hinv hrsp
  | setline | txcarrier =>
    rw [← Host.Outcome.next.inj h] at hrsp ⊢
    exact ⟨hc, htx, hwave, hdemod, hrx, htxf, hrxf, hrsp⟩
  | pushtx v =>
    rcases Fifo.enqueue_cases s.cfg.cap s.txf v with ⟨-, henq⟩ | ⟨hroom, henq⟩ <;>
      rw [exec_pushtx henq] at h <;> rw [← Host.Outcome.next.inj h] at hrsp ⊢
    · exact ⟨hc, htx, hwave, hdemod, hrx, htxf, hrxf, hrsp⟩
    · exact ⟨hc, htx, hwave, hdemod, hrx, Fifo.push_inv_of_ne v htxf hroom, hrxf, hrsp⟩
  | poprx =>
    obtain ⟨-, hpop⟩ := poprxTakesTheOldestByte
    by_cases hempty : s.rxf.wr = s.rxf.rd
    · rw [(hpop s).1 hempty] at h
      rw [← Host.Outcome.next.inj h] at hrsp ⊢
      exact ⟨hc, htx, hwave, hdemod, hrx, htxf, hrxf, hrsp⟩
    · rw [(hpop s).2 hempty] at h
      rw [← Host.Outcome.next.inj h] at hrsp ⊢
      exact ⟨hc, htx, hwave, hdemod, hrx, htxf, Fifo.pop_inv_of_ne hrxf hempty, hrsp⟩
  | setdir d r =>
    rw [exec_setdir] at h
    rw [← Host.Outcome.next.inj h] at hrsp ⊢
    have hlen := DelayLine.quiet_length (rxPair_qlen_pos (s := s.setDirRev d r) hc)
    exact ⟨hc, htx, hwave, demodInv_of_zero rfl hlen, hsearch, htxf, hrxf, hrsp⟩
  | rxcarrier b => cases b with
    | true =>
      rw [← Host.Outcome.next.inj h] at hrsp ⊢
      exact ⟨hc, htx, hwave, hdemod, hwait, htxf, hrxf, hrsp⟩
    | false =>
      rw [← Host.Outcome.next.inj h] at hrsp ⊢
      obtain ⟨hlen, -⟩ := hdemod
      exact ⟨hc, htx, hwave, demodInv_of_zero rfl hlen, hsearch, htxf, hrxf, hrsp⟩
  | tick => exact absurd hcmd.symm Bool.false_ne_true
  | _ => exact absurd hwf Bool.false_ne_true

/-! ## The reset pin -/

/-- The reset state meets the invariant, whatever comes later at the ports. -/
theorem resetWith_inv {c : Cfg} (hc : c.wf = true) : Inv (State.resetWith c) := by
  obtain ⟨-, -, hN, -⟩ := Cfg.wf_frame hc
  have hclk : 0 < c.bitLen := by omega
  have hbits : BitsBounded c TxRegs.reset := .of_other (.inl rfl) (Nat.zero_le _)
  have hlen := DelayLine.quiet_length (Cfg.wf_qlen_pos hc).2
  obtain ⟨-, hrx⟩ := rxBounded_cleared hc RxRegs.reset
  have hdac : bias ≠ 0 := by decide
  have hrsp : (0 : Word).toNat < 0x8000 := by decide
  exact ⟨hc, ⟨hclk, hbits⟩, ⟨fun _ => ⟨rfl, rfl⟩, hdac⟩, demodInv_of_zero rfl hlen, hrx, Fifo.emptied_inv c,
    Fifo.emptied_inv c, .inr hrsp⟩

/-- Settles O9. -/
theorem resetMeetsTheInvariant : Obligations.ResetMeetsTheInvariant :=
  ⟨resetWith_inv (by decide), fun _ => resetWith_inv⟩

/-! ## Steps -/

/-- A word on a port keeps the invariant. -/
theorem runWord_inv {w : PortWord} {s t : State} (hinv : Inv s) (h : runWord w s = .next t) : Inv t := by
  cases hdec : decode w with
  | reserved v =>
    simp only [runWord, hdec] at h
    exact Host.Outcome.next.inj h ▸ inv_setRsp hinv (.inl rfl)
  | op i =>
    rw [runWord_of_decode hdec] at h
    obtain ⟨-, hwf⟩ := encode_of_decode hdec
    cases hcmd : isTick i with
    | true =>
      obtain ⟨a, rfl⟩ := eq_tick_of_isTick hcmd
      exact Host.Outcome.next.inj h ▸ tick_inv a hinv
    | false => exact exec_command_inv hinv hwf hcmd h

/-- The invariant says nothing about the inputs to come. -/
theorem inv_setInputs {s : State} (hinv : Inv s) (l : List PortInput) : Inv (s.setInputs l) := hinv

/-- Taking the next event keeps the invariant. -/
theorem fetch_inv {s s1 : State} (hinv : Inv s)
    (h : fetch s = .quiet s1 ∨ (∃ c, fetch s = .reset c s1) ∨ ∃ w, fetch s = .op w s1) : Inv s1 := by
  rcases fetch_frame s with ⟨l, hf⟩ | ⟨c, l, hf⟩ | ⟨w, l, hf⟩ <;> rw [hf] at h
  · obtain h | ⟨_, h⟩ | ⟨_, h⟩ := h <;> cases h
    exact inv_setInputs hinv l
  · obtain h | ⟨_, h⟩ | ⟨_, h⟩ := h <;> cases h
    exact inv_setInputs hinv l
  · obtain h | ⟨_, h⟩ | ⟨_, h⟩ := h <;> cases h
    exact inv_setInputs hinv l

/-- Settles O10: an event is nothing, the reset pin or a word on a port. -/
theorem everyStepKeepsTheInvariant : Obligations.EveryStepKeepsTheInvariant := by
  intro s t hinv hstep
  rcases step_cases s t hstep with hquiet | ⟨c, s1, -, hc, rfl⟩ | ⟨w, s1, hop, -, hrun⟩
  · exact fetch_inv hinv (.inl hquiet)
  · exact inv_setInputs (resetWith_inv hc) s1.inputs
  · exact runWord_inv (fetch_inv hinv (.inr (.inr ⟨w, hop⟩))) hrun

/-! ## Runs -/

/-- What the next event leaves of inputs that present well-formed configurations only. -/
theorem fetch_inputsWf {s : State} (h : InputsWf s) :
    ∃ l, InputsWf (s.setInputs l) ∧ (fetch s = .quiet (s.setInputs l) ∨
      (∃ c, c.wf = true ∧ fetch s = .reset c (s.setInputs l)) ∨ ∃ w, fetch s = .op w (s.setInputs l)) := by
  cases hin : s.inputs with
  | nil =>
    have hsame : s = s.setInputs [] := by simp only [State.setInputs, ← hin]
    exact ⟨[], hsame ▸ h, .inl (by rw [← hsame]; simp only [fetch, hin])⟩
  | cons p rest =>
    have hrest : InputsWf (s.setInputs rest) := fun x hx => h x (by rw [hin]; exact List.mem_cons_of_mem p hx)
    cases hrst : p.rst with
    | some c =>
      have hc : c.wf = true := h p (by rw [hin]; exact List.mem_cons_self) c hrst
      exact ⟨rest, hrest, .inr (.inl ⟨c, hc, by simp only [fetch, hin, hrst]⟩)⟩
    | none =>
      cases hadc : p.adc with
      | none => cases hcmd : p.cmd with
        | none => exact ⟨rest, hrest, .inl (by simp only [fetch, hin, hrst, hadc, hcmd])⟩
        | some w => exact ⟨rest, hrest, .inr (.inr ⟨.command w, by simp only [fetch, hin, hrst, hadc, hcmd]⟩)⟩
      | some a => cases hcmd : p.cmd with
        | none => exact ⟨rest, hrest, .inr (.inr ⟨.tick a, by simp only [fetch, hin, hrst, hadc, hcmd]⟩)⟩
        | some w =>
          have hlater : InputsWf (s.setInputs ({ cmd := some w } :: rest)) := by
            intro x hx c hxc
            rcases List.mem_cons.1 hx with rfl | hx
            · exact nomatch hxc
            · exact hrest x hx c hxc
          exact ⟨_, hlater, .inr (.inr ⟨.tick a, by simp only [fetch, hin, hrst, hadc, hcmd]⟩)⟩

/-- A word on a port leaves the inputs to come. -/
theorem runWord_inputs {w : PortWord} {s t : State} (h : runWord w s = .next t) : t.inputs = s.inputs := by
  cases hdec : decode w with
  | reserved v =>
    simp only [runWord, hdec] at h
    exact Host.Outcome.next.inj h ▸ rfl
  | op i =>
    rw [runWord_of_decode hdec] at h
    obtain ⟨-, hinputs, -⟩ := agentsKeepTheirRights i s t (encode_of_decode hdec).2 h
    exact hinputs

/-- From a state that meets the invariant a step answers a next state, as long as resets present well-formed
configurations. -/
theorem step_progress {s : State} (hc : s.cfg.wf = true) (h : InputsWf s) : ∃ t, step s = .next t ∧ InputsWf t := by
  obtain ⟨l, hl, hquiet | ⟨c, hcwf, hreset⟩ | ⟨w, hop⟩⟩ := fetch_inputsWf h
  · exact ⟨_, by simp only [step, hquiet], hl⟩
  · exact ⟨releaseReset c (s.setInputs l), by simp only [step, hreset, hcwf, if_true], hl⟩
  · obtain ⟨t, ht⟩ := runWord_total w (s.setInputs l)
    refine ⟨t, by rw [step_of_fetch_op hop hc, ht], ?_⟩
    rw [InputsWf, runWord_inputs ht]
    exact hl

/-- Settles O11: each step answers a next state, which meets the invariant again. -/
theorem noRunEverStops : Obligations.NoRunEverStops := by
  intro k
  induction k with
  | zero => exact fun s hinv _ => hinv
  | succ k ih =>
    intro s hinv hinputs
    obtain ⟨hc, -⟩ := id hinv
    obtain ⟨t, hstep, ht⟩ := step_progress hc hinputs
    exact ⟨hinv, t, hstep, ih t (everyStepKeepsTheInvariant s t hinv hstep) ht⟩

end Sys2Proof.Machine
end
